-- ==== Sys2Proof/Word.lean ====
section
/-! DEFINITION. The widths of the fields SRIB computes with (00_scope.md R7, R8). All values are unsigned. -/
namespace Sys2Proof

/-- A register of the host bus: BUS_W = 32 bits (R7). -/
abbrev Word := BitVec 32

/-- A half-period, a half-period count or a debounce timeout: HP_W = CNT_W = TO_W = 16 bits (R7). -/
abbrev Half := BitVec 16

/-- A byte offset of the register space: ADDR_W = 8 bits (R7, R50). -/
abbrev Offset := BitVec 8

/-- A ButtonMask, "a 4-bit set, one bit per of the four logical buttons" (R11): bit i set means button i pressed. -/
abbrev ButtonMask := BitVec 4

/-- The transaction word `tw = WE :: ADDR :: DATA`, 41 bits (R50, R80). -/
abbrev Tw := BitVec 41

end Sys2Proof
end

