-- ==== Sys2Proof/Syntax.lean ====
section
/-! DEFINITION. SRIB's instructions: its host-bus transactions, one constructor per row of spec/opcode_table.json, in
the table's order (00_scope.md R2, 30_encoding.md R81, R83). A read ignores DATA (R80), so its constructor carries none
(DEDUCED, notes/assumptions/7.md). -/
namespace Sys2Proof

inductive Instr where
  /-- RD_ID, offset 0x00 (R114) -/
  | rdId
  /-- RD_STATUS, offset 0x08 (R115) -/
  | rdStatus
  /-- RD_ERR, offset 0x0C (R116) -/
  | rdErr
  /-- RD_TONE_HP, offset 0x10 (R153) -/
  | rdToneHp
  /-- RD_TONE_CNT, offset 0x14 (R155) -/
  | rdToneCnt
  /-- RD_SWEEP_STEP, offset 0x18 (R157) -/
  | rdSweepStep
  /-- RD_SWEEP_FLOOR, offset 0x1C (R159) -/
  | rdSweepFloor
  /-- RD_TE_HP, offset 0x20 (R160) -/
  | rdTeHp
  /-- RD_TE_REMAIN, offset 0x24 (R161) -/
  | rdTeRemain
  /-- RD_TE_CTRL, offset 0x28 (R162) -/
  | rdTeCtrl
  /-- RD_TE_RELOAD, offset 0x2C (R163) -/
  | rdTeReload
  /-- RD_DEB_RESULT, offset 0x30 (R132) -/
  | rdDebResult
  /-- RD_DEB_LEFT, offset 0x34 (R133) -/
  | rdDebLeft
  /-- RD_RNG_STATE, offset 0x38 (R192) -/
  | rdRngState
  /-- RD_RNG_OUT, offset 0x3C (R193) -/
  | rdRngOut
  /-- WR_TONE_HP, offset 0x10, HP = DATA[15:0] (R152) -/
  | wrToneHp (hp : Half)
  /-- WR_TONE_CNT, offset 0x14, CNT = DATA[15:0] (R154) -/
  | wrToneCnt (cnt : Half)
  /-- WR_SWEEP_STEP, offset 0x18, STEP = DATA[15:0] (R156) -/
  | wrSweepStep (step : Half)
  /-- WR_SWEEP_FLOOR, offset 0x1C, FLOOR = DATA[15:0] (R158) -/
  | wrSweepFloor (floor : Half)
  /-- WR_RNG_STATE, offset 0x38, SEED = DATA[31:0] (R191) -/
  | wrRngState (seed : Word)
  /-- NOP, command 0x0 (R112) -/
  | nop
  /-- TONE_START, command 0x1, CB = PAYLOAD[1:0]; 2 and 3 are reserved (R85, R150) -/
  | toneStart (cb : BitVec 2)
  /-- TONE_STOP, command 0x2 (R151) -/
  | toneStop
  /-- DEB_START, command 0x3, TIMEOUT = PAYLOAD[15:0] (R86, R130) -/
  | debStart (timeout : Half)
  /-- RNG_DRAW, command 0x4 (R190) -/
  | rngDraw
  /-- CLR_ERR, command 0xF (R113) -/
  | clrErr
  deriving DecidableEq, Repr

end Sys2Proof
end

