-- ==== Sys2Proof/WellFormed.lean ====
section
/-! DEFINITION. Which instructions have an encoding that SRIB accepts. Every operand but one is used at its written
width (30_encoding.md R88), so its type already says all; the one check is on CB. -/
namespace Sys2Proof

/-- "0 = STOP ..., 1 = SWEEP ..., 2 and 3 reserved" (R85). -/
def cbLegal (cb : BitVec 2) : Bool := cb == 0#2 || cb == 1#2

/-- The well-formedness check, over every constructor. -/
def Instr.wf : Instr → Bool
  | .toneStart cb => cbLegal cb
  | .rdId | .rdStatus | .rdErr | .rdToneHp | .rdToneCnt | .rdSweepStep | .rdSweepFloor
  | .rdTeHp | .rdTeRemain | .rdTeCtrl | .rdTeReload | .rdDebResult | .rdDebLeft
  | .rdRngState | .rdRngOut
  | .wrToneHp _ | .wrToneCnt _ | .wrSweepStep _ | .wrSweepFloor _ | .wrRngState _
  | .nop | .toneStop | .debStart _ | .rngDraw | .clrErr => true

/-- The instruction is one that a legal transaction word stands for (R81). -/
abbrev Instr.WellFormed (i : Instr) : Prop := i.wf = true

end Sys2Proof
end

