-- ==== Sys2Proof/Decode.lean ====
section
/-! DEFINITION. From the 41-bit transaction word to an instruction or the bus error it raises (30_encoding.md R80 to
R89), the encoder, and the opcode table's match and mask words. Decoding is total (R81); the order of its tests is
that of 60_exceptions.md R212, whose tests on the state stand in the meanings. -/
namespace Sys2Proof

/-- The bus errors SRIB can raise (60_exceptions.md R211; codes 0 and 10..15 are no errors). -/
inductive BusError where
  /-- CMD write with OP in 0x5..0xE -/
  | illOp
  /-- a reserved bit set in DATA, or CB in {2, 3} -/
  | rsvBits
  /-- TONE_START while the engine is Active -/
  | teBusy
  /-- TONE_START with a zero half-period, a zero count, or SWEEP with a zero step -/
  | teZero
  /-- DEB_START while a wait is in progress -/
  | debBusy
  /-- aligned address in 0x40..0xFC -/
  | badAddr
  /-- write to a read-only register -/
  | roWrite
  /-- read of CMD -/
  | woRead
  /-- address with addr[1:0] != 0 -/
  | align
  deriving DecidableEq, Repr

/-- ERR.CODE of a bus error (R211). -/
def BusError.code : BusError → BitVec 4
  | .illOp => 1
  | .rsvBits => 2
  | .teBusy => 3
  | .teZero => 4
  | .debBusy => 5
  | .badAddr => 6
  | .roWrite => 7
  | .woRead => 8
  | .align => 9

/-- What a transaction word is: a row of the opcode table, or the bus error the checks give (R81). -/
inductive Decoded where
  | instr (i : Instr)
  | error (e : BusError)
  deriving DecidableEq, Repr

/-- WE, bit 40 (R80): true = write. -/
def twWe (tw : Tw) : Bool := tw.getLsbD 40

/-- ADDR, bits [39:32] (R80). -/
def twAddr (tw : Tw) : Offset := tw.extractLsb' 32 8

/-- DATA, bits [31:0] (R80). -/
def twData (tw : Tw) : Word := tw.extractLsb' 0 32

/-- OP, bits [31:28] of a command word (R82). -/
def cmdOp (data : Word) : BitVec 4 := data.extractLsb' 28 4

/-- PAYLOAD, bits [27:0] of a command word (R82). -/
def cmdPayload (data : Word) : BitVec 28 := data.extractLsb' 0 28

/-- A read selects a register by ADDR alone (R81, R53). -/
def decodeRead (addr : Offset) : Decoded :=
  if addr = 0x00 then .instr .rdId
  else if addr = 0x04 then .error .woRead
  else if addr = 0x08 then .instr .rdStatus
  else if addr = 0x0C then .instr .rdErr
  else if addr = 0x10 then .instr .rdToneHp
  else if addr = 0x14 then .instr .rdToneCnt
  else if addr = 0x18 then .instr .rdSweepStep
  else if addr = 0x1C then .instr .rdSweepFloor
  else if addr = 0x20 then .instr .rdTeHp
  else if addr = 0x24 then .instr .rdTeRemain
  else if addr = 0x28 then .instr .rdTeCtrl
  else if addr = 0x2C then .instr .rdTeReload
  else if addr = 0x30 then .instr .rdDebResult
  else if addr = 0x34 then .instr .rdDebLeft
  else if addr = 0x38 then .instr .rdRngState
  else if addr = 0x3C then .instr .rdRngOut
  else .error .badAddr

/-- A staging write stores DATA[15:0]; DATA[31:16] must be 0 (R81, R84). -/
def decodeStaging (mk : Half → Instr) (data : Word) : Decoded :=
  if data.extractLsb' 16 16 = 0#16 then .instr (mk (data.extractLsb' 0 16)) else .error .rsvBits

/-- A command without operand: PAYLOAD must be 0 (R87). -/
def decodeNoOperand (i : Instr) (pl : BitVec 28) : Decoded :=
  if pl = 0#28 then .instr i else .error .rsvBits

/-- TONE_START: CB = PAYLOAD[1:0] in {0, 1}, PAYLOAD[27:2] = 0 (R85). -/
def decodeToneStart (pl : BitVec 28) : Decoded :=
  if pl.extractLsb' 2 26 = 0#26 ∧ cbLegal (pl.extractLsb' 0 2) then .instr (.toneStart (pl.extractLsb' 0 2))
  else .error .rsvBits

/-- DEB_START: TIMEOUT = PAYLOAD[15:0], PAYLOAD[27:16] = 0 (R86). -/
def decodeDebStart (pl : BitVec 28) : Decoded :=
  if pl.extractLsb' 16 12 = 0#12 then .instr (.debStart (pl.extractLsb' 0 16)) else .error .rsvBits

/-- The command word written to CMD (R82, R83); OP in 0x5..0xE is ILL_OP. -/
def decodeCmd (data : Word) : Decoded :=
  if cmdOp data = 0x0 then decodeNoOperand .nop (cmdPayload data)
  else if cmdOp data = 0x1 then decodeToneStart (cmdPayload data)
  else if cmdOp data = 0x2 then decodeNoOperand .toneStop (cmdPayload data)
  else if cmdOp data = 0x3 then decodeDebStart (cmdPayload data)
  else if cmdOp data = 0x4 then decodeNoOperand .rngDraw (cmdPayload data)
  else if cmdOp data = 0xF then decodeNoOperand .clrErr (cmdPayload data)
  else .error .illOp

/-- A write goes to CMD, to a staging register or to RNG_STATE; every other register is read-only (R81, R89). -/
def decodeWrite (addr : Offset) (data : Word) : Decoded :=
  if addr = 0x04 then decodeCmd data
  else if addr = 0x10 then decodeStaging .wrToneHp data
  else if addr = 0x14 then decodeStaging .wrToneCnt data
  else if addr = 0x18 then decodeStaging .wrSweepStep data
  else if addr = 0x1C then decodeStaging .wrSweepFloor data
  else if addr = 0x38 then .instr (.wrRngState data)
  else .error .roWrite

/-- The decoder, in R212's order: alignment, address, then direction, reserved bits and opcode. -/
def decode (tw : Tw) : Decoded :=
  if (twAddr tw).extractLsb' 0 2 ≠ 0#2 then .error .align
  else if 0x40#8 ≤ twAddr tw then .error .badAddr
  else if twWe tw then decodeWrite (twAddr tw) (twData tw)
  else decodeRead (twAddr tw)

/-- The transaction word of a read of a register: `0 :: addr :: 0` (R100). -/
def readWord (addr : Offset) : Tw := 0#1 ++ addr ++ 0#32

/-- The transaction word of a write: `1 :: addr :: data` (R100). -/
def writeWord (addr : Offset) (data : Word) : Tw := 1#1 ++ addr ++ data

/-- The transaction word of a command: `1 :: 0x04 :: OP :: PAYLOAD` (R82, R100). -/
def cmdWord (op : BitVec 4) (payload : BitVec 28) : Tw := writeWord 0x04 (op ++ payload)

/-- The encoder; a read's ignored DATA is 0, as in the assembler syntax of R100. -/
def encode : Instr → Tw
  | .rdId => readWord 0x00
  | .rdStatus => readWord 0x08
  | .rdErr => readWord 0x0C
  | .rdToneHp => readWord 0x10
  | .rdToneCnt => readWord 0x14
  | .rdSweepStep => readWord 0x18
  | .rdSweepFloor => readWord 0x1C
  | .rdTeHp => readWord 0x20
  | .rdTeRemain => readWord 0x24
  | .rdTeCtrl => readWord 0x28
  | .rdTeReload => readWord 0x2C
  | .rdDebResult => readWord 0x30
  | .rdDebLeft => readWord 0x34
  | .rdRngState => readWord 0x38
  | .rdRngOut => readWord 0x3C
  | .wrToneHp hp => writeWord 0x10 (0#16 ++ hp)
  | .wrToneCnt cnt => writeWord 0x14 (0#16 ++ cnt)
  | .wrSweepStep step => writeWord 0x18 (0#16 ++ step)
  | .wrSweepFloor floor => writeWord 0x1C (0#16 ++ floor)
  | .wrRngState seed => writeWord 0x38 seed
  | .nop => cmdWord 0x0 0
  | .toneStart cb => cmdWord 0x1 (0#26 ++ cb)
  | .toneStop => cmdWord 0x2 0
  | .debStart timeout => cmdWord 0x3 (0#12 ++ timeout)
  | .rngDraw => cmdWord 0x4 0
  | .clrErr => cmdWord 0xF 0

/-- The "match" word of the instruction's row of spec/opcode_table.json. -/
def rowMatch : Instr → Tw
  | .rdId => 0x00000000000
  | .rdStatus => 0x00800000000
  | .rdErr => 0x00C00000000
  | .rdToneHp => 0x01000000000
  | .rdToneCnt => 0x01400000000
  | .rdSweepStep => 0x01800000000
  | .rdSweepFloor => 0x01C00000000
  | .rdTeHp => 0x02000000000
  | .rdTeRemain => 0x02400000000
  | .rdTeCtrl => 0x02800000000
  | .rdTeReload => 0x02C00000000
  | .rdDebResult => 0x03000000000
  | .rdDebLeft => 0x03400000000
  | .rdRngState => 0x03800000000
  | .rdRngOut => 0x03C00000000
  | .wrToneHp _ => 0x11000000000
  | .wrToneCnt _ => 0x11400000000
  | .wrSweepStep _ => 0x11800000000
  | .wrSweepFloor _ => 0x11C00000000
  | .wrRngState _ => 0x13800000000
  | .nop => 0x10400000000
  | .toneStart _ => 0x10410000000
  | .toneStop => 0x10420000000
  | .debStart _ => 0x10430000000
  | .rngDraw => 0x10440000000
  | .clrErr => 0x104F0000000

/-- The "mask" word of the instruction's row of spec/opcode_table.json. -/
def rowMask : Instr → Tw
  | .rdId | .rdStatus | .rdErr | .rdToneHp | .rdToneCnt | .rdSweepStep | .rdSweepFloor
  | .rdTeHp | .rdTeRemain | .rdTeCtrl | .rdTeReload | .rdDebResult | .rdDebLeft
  | .rdRngState | .rdRngOut | .wrRngState _ => 0x1FF00000000
  | .wrToneHp _ | .wrToneCnt _ | .wrSweepStep _ | .wrSweepFloor _ | .debStart _ => 0x1FFFFFF0000
  | .toneStart _ => 0x1FFFFFFFFFE
  | .nop | .toneStop | .rngDraw | .clrErr => 0x1FFFFFFFFFF

/-- The operand bits of the instruction's word, in their place: the table's variable bits that are not ignored. -/
def rowOperand : Instr → Tw
  | .wrToneHp v | .wrToneCnt v | .wrSweepStep v | .wrSweepFloor v | .debStart v => v.setWidth 41
  | .wrRngState v => v.setWidth 41
  | .toneStart cb => cb.setWidth 41
  | .rdId | .rdStatus | .rdErr | .rdToneHp | .rdToneCnt | .rdSweepStep | .rdSweepFloor
  | .rdTeHp | .rdTeRemain | .rdTeCtrl | .rdTeReload | .rdDebResult | .rdDebLeft
  | .rdRngState | .rdRngOut | .nop | .toneStop | .rngDraw | .clrErr => 0

/-- A read: a transaction with WE = 0, whose DATA bits the decoder ignores (R81). -/
def Instr.isRead : Instr → Bool
  | .rdId | .rdStatus | .rdErr | .rdToneHp | .rdToneCnt | .rdSweepStep | .rdSweepFloor
  | .rdTeHp | .rdTeRemain | .rdTeCtrl | .rdTeReload | .rdDebResult | .rdDebLeft
  | .rdRngState | .rdRngOut => true
  | .wrToneHp _ | .wrToneCnt _ | .wrSweepStep _ | .wrSweepFloor _ | .wrRngState _
  | .nop | .toneStart _ | .toneStop | .debStart _ | .rngDraw | .clrErr => false

/-- The instruction the decoder reads from a word given as a number, bit 0 its least significant bit: the table's
numbering (R80). A number of more than 41 bits is no transaction word (DESIGN CHOICE, notes/assumptions/15.md). -/
def decodeTableWord (_nbits w : Nat) : Option Instr :=
  if w < 2 ^ 41 then
    match decode (BitVec.ofNat 41 w) with
    | .instr i => some i
    | .error _ => none
  else none

end Sys2Proof
end

