-- ==== Sys2Proof/Config.lean ====
section
/-! DEFINITION. What SRIB's rules leave to the environment and to the implementation: the input ports of a cycle
(10_state.md R22) and, as a free value, what the environment puts on them (00_scope.md R14). -/
namespace Sys2Proof

/-- The levels on SRIB's input ports in one clock cycle (R22); `clk` is the cycle itself. `frc` is carried in 32 bits,
of which the machine sees the low FRC_W (State's `frcTop`; R7). -/
structure Ports where
  /-- synchronous reset, active high -/
  rst : Bool
  /-- timer tick strobe -/
  tick : Bool
  /-- button sampling strobe -/
  sampleStb : Bool
  /-- logical button lines, bit i = 1 when button i is pressed -/
  btn : ButtonMask
  /-- the free-running counter's current value -/
  frc : Word
  /-- a host transaction is presented in this cycle -/
  busValid : Bool
  /-- true = write, false = read -/
  busWe : Bool
  /-- byte offset of the register -/
  busAddr : Offset
  /-- write data -/
  busWdata : Word
  deriving DecidableEq, Repr, Inhabited

/-- A cycle in which the environment asserts nothing. -/
def Ports.idle : Ports :=
  { rst := false, tick := false, sampleStb := false, btn := 0#4, frc := 0#32,
    busValid := false, busWe := false, busAddr := 0#8, busWdata := 0#32 }

/-- FREE VALUE (R14: "A model treats each as a free input of the cycle"): the inputs of the n-th cycle whose inputs
State's `script` does not hold. It has no body, so every statement holds for whatever the environment does. See
notes/assumptions/1.md. -/
opaque Config.freeCycle : Nat → Ports

/-- The default of the open parameter FRC_W is 8 (R7), so the top bit of `frc` is bit 7. It is used by State.reset
alone: State's field `frcTop` is the model's argument FRC_W - 1 (DESIGN CHOICE, notes/assumptions/4.md). -/
def Config.frcTopDefault : Fin 32 := 7

end Sys2Proof
end

