-- ==== Sys2Proof/Machine/State.lean ====
section
/-! DEFINITION. The state of SRIB (10_state.md sections 2 and 3), flat and plain data, the reasons a step could stop, and
the state after reset (70_reset_and_hazards.md R241). -/
namespace Sys2Proof.Machine

/-- The completion action `te_cb`: "0 = STOP, 1 = SWEEP (2 and 3 never held)" (R24, R85). Two constructors, so that the
values never held cannot be written down (DEDUCED, notes/assumptions/6.md). -/
inductive Cb where
  /-- 0: the source's default "just stop" callback -/
  | stop
  /-- 1: the chaining callback -/
  | sweep
  deriving DecidableEq, Repr

structure State where
  /-- 1 = Active, 0 = Idle (R24) -/
  teActive : Bool
  /-- the currently armed half-period, in ticks (R24) -/
  teHp : Half
  /-- ticks counted since the last arm or the last toggle (R24) -/
  tePhaseCnt : Half
  /-- half-periods still to emit (R24) -/
  teRemaining : Half
  /-- completion action (R24) -/
  teCb : Cb
  /-- half-period count used by every chained tone (R24) -/
  teReload : Half
  /-- half-period decrement per chained tone (R24) -/
  teStep : Half
  /-- smallest half-period a chained tone may take (R24) -/
  teFloor : Half
  /-- audio output driven (R24) -/
  audEn : Bool
  /-- current level of audio line A while driven (R24) -/
  audPhase : Bool
  /-- staged half-period, register TONE_HP (R25, R34) -/
  stgHp : Half
  /-- staged count, register TONE_CNT (R25, R35) -/
  stgCnt : Half
  /-- staged sweep step, register SWEEP_STEP (R25, R36) -/
  stgStep : Half
  /-- staged sweep floor, register SWEEP_FLOOR (R25, R37) -/
  stgFloor : Half
  /-- a wait for buttons is in progress (R26) -/
  debBusy : Bool
  /-- OR of every sample taken since the last DEB_START (R26) -/
  debAcc : ButtonMask
  /-- the most recent sample taken (R26) -/
  debLast : ButtonMask
  /-- samples still allowed before timeout (R26) -/
  debLeft : Half
  /-- the last wait ended by release rather than by timeout (R26) -/
  debRel : Bool
  /-- the source's RandomState (R27) -/
  rngState : Word
  /-- the index returned by the last draw (R27) -/
  rngOut : BitVec 2
  /-- a draw has happened since reset (R27) -/
  rngValid : Bool
  /-- the code of the first bus error since reset or the last CLR_ERR (R28) -/
  errCode : BitVec 4
  /-- drives the output port `bus_rdata` (R28) -/
  busRdataQ : Word
  /-- drives the output port `bus_err` (R28) -/
  busErrQ : Bool
  /-- the input ports in the cycle being performed (R22) -/
  ports : Ports
  /-- the model's own: FRC_W - 1, the index of the top bit of `frc`. FRC_W is an open parameter in 1..32, taken as an
  argument (R7); no step writes it (notes/assumptions/4.md) -/
  frcTop : Fin 32
  /-- the model's own: the inputs of the coming cycles, the next one first (notes/assumptions/1.md) -/
  script : List Ports
  /-- the model's own: how many cycles took their inputs from the free value `Config.freeCycle`
  (notes/assumptions/1.md) -/
  drawn : Nat
  deriving DecidableEq, Repr

/-- The reasons a step could stop: none. "An error never stops SRIB" (60_exceptions.md R216); every bus error is taken
by `raiseBusError` and the step answers a next state. Having no fault is exact, neither safe nor unsafe
(notes/assumptions/11.md). -/
inductive Fault where
  deriving DecidableEq, Repr

/-- The reasons an instruction could be refused. -/
inductive Refusal where
  /-- An instruction that has no meaning in the model. Only exec's arms could raise it, and none does: every row of
  the opcode table has its meaning. It would be safe: it stops where the hardware goes on. -/
  | notModelled (mnemonic : String)
  deriving DecidableEq, Repr

/-- The machine right after reset: every field of 10_state.md section 3 at 0 (R241). `ports`, `frcTop`, `script` and
`drawn` are not the spec's state; their values are DESIGN CHOICES (notes/assumptions/3.md, 4.md). -/
def State.reset : State :=
  { teActive := false, teHp := 0, tePhaseCnt := 0, teRemaining := 0, teCb := .stop, teReload := 0, teStep := 0,
    teFloor := 0, audEn := false, audPhase := false,
    stgHp := 0, stgCnt := 0, stgStep := 0, stgFloor := 0,
    debBusy := false, debAcc := 0, debLast := 0, debLeft := 0, debRel := false,
    rngState := 0, rngOut := 0, rngValid := false,
    errCode := 0, busRdataQ := 0, busErrQ := false,
    ports := Ports.idle, frcTop := Config.frcTopDefault, script := [], drawn := 0 }

end Sys2Proof.Machine
end

