-- ==== Sys2Proof/Machine/Flags.lean ====
section
/-! DEFINITION. The status flags (10_state.md R46) and the output ports (R23): functions of the state alone (R21).
SRIB has no condition codes. -/
namespace Sys2Proof.Machine

/-- STATUS.ERR_PEND: 1 when `err_code != 0` (R32). -/
def errPend (s : State) : Bool := s.errCode != 0#4

/-- Output port `aud_p`: `aud_en & aud_phase` (R23). -/
def audP (s : State) : Bool := s.audEn && s.audPhase

/-- Output port `aud_n`: `aud_en & ~aud_phase` (R23). -/
def audN (s : State) : Bool := s.audEn && !s.audPhase

/-- Output port `bus_rdata`: read data of the transaction of the previous cycle (R23, R28). -/
def busRdata (s : State) : Word := s.busRdataQ

/-- Output port `bus_err`: 1 in the cycle after a transaction that raised a bus error (R23, R28). -/
def busErr (s : State) : Bool := s.busErrQ

/-- `popcount`: the number of 1 bits (R8, R134), in the 3 bits of DEB_RESULT.POP. -/
def popcount (m : ButtonMask) : BitVec 3 :=
  (BitVec.ofBool (m.getLsbD 0)).setWidth 3 + (BitVec.ofBool (m.getLsbD 1)).setWidth 3
    + (BitVec.ofBool (m.getLsbD 2)).setWidth 3 + (BitVec.ofBool (m.getLsbD 3)).setWidth 3

/-- `1 << k` for a button index: the index as a ButtonMask (R8, R45). -/
def oneHot (k : BitVec 2) : ButtonMask := 1#4 <<< k.toNat

end Sys2Proof.Machine
end

