-- ==== Sys2Proof/Machine/Operands.lean ====
section
/-! DEFINITION. What an instruction reads: the sixteen registers as views of the state (10_state.md R30 to R45; every
reserved bit reads 0), the CB operand, and the `frc` input. -/
namespace Sys2Proof.Machine

/-- CB as it is held in `te_cb`: 0 = STOP, 1 = SWEEP (R85). -/
def cbOfBits (cb : BitVec 2) : Cb := if cb = 1#2 then .sweep else .stop

/-- `te_cb` as TE_CTRL shows it (R40). -/
def cbBits : Cb → BitVec 2
  | .stop => 0#2
  | .sweep => 1#2

/-- `zext_32(frc)`: the low FRC_W = top + 1 bits of the port, zero-extended (R88, R190). -/
def zextFrc (top : Fin 32) (frc : Word) : Word := BitVec.ofNat 32 (frc.toNat % 2 ^ (top.val + 1))

/-- The `frc` input of the cycle as RNG_DRAW mixes it in (R190). -/
def frcIn (s : State) : Word := zextFrc s.frcTop s.ports.frc

/-- ID, constant, ASCII "SIMN" (R30). -/
def regId : Word := 0x53494D4E

/-- STATUS (R32, R115). -/
def regStatus (s : State) : Word :=
  0#27 ++ BitVec.ofBool s.audPhase ++ BitVec.ofBool s.audEn ++ BitVec.ofBool (errPend s) ++ BitVec.ofBool s.debBusy
    ++ BitVec.ofBool s.teActive

/-- ERR (R33). -/
def regErr (s : State) : Word := s.errCode.setWidth 32

/-- TONE_HP (R34). -/
def regToneHp (s : State) : Word := s.stgHp.setWidth 32

/-- TONE_CNT (R35). -/
def regToneCnt (s : State) : Word := s.stgCnt.setWidth 32

/-- SWEEP_STEP (R36). -/
def regSweepStep (s : State) : Word := s.stgStep.setWidth 32

/-- SWEEP_FLOOR (R37). -/
def regSweepFloor (s : State) : Word := s.stgFloor.setWidth 32

/-- TE_HP (R38). -/
def regTeHp (s : State) : Word := s.teHp.setWidth 32

/-- TE_REMAIN (R39). -/
def regTeRemain (s : State) : Word := s.teRemaining.setWidth 32

/-- TE_CTRL (R40). -/
def regTeCtrl (s : State) : Word := (cbBits s.teCb).setWidth 32

/-- TE_RELOAD (R41). -/
def regTeReload (s : State) : Word := s.teReload.setWidth 32

/-- DEB_RESULT: LAST, REL, POP, ACC (R42, R132). -/
def regDebResult (s : State) : Word :=
  0#20 ++ s.debLast ++ BitVec.ofBool s.debRel ++ popcount s.debAcc ++ s.debAcc

/-- DEB_LEFT (R43). -/
def regDebLeft (s : State) : Word := s.debLeft.setWidth 32

/-- RNG_STATE (R44). -/
def regRngState (s : State) : Word := s.rngState

/-- RNG_OUT: VALID, ONEHOT, two reserved bits, IDX (R45, R193). -/
def regRngOut (s : State) : Word :=
  0#23 ++ BitVec.ofBool s.rngValid ++ oneHot s.rngOut ++ 0#2 ++ s.rngOut

/-- `ReadReg(s, addr)` (R111, with the map of R53): the value of the register at a readable offset. The offsets that
are not readable never reach it; it is 0 there. -/
def readReg (s : State) (addr : Offset) : Word :=
  if addr = 0x00 then regId
  else if addr = 0x08 then regStatus s
  else if addr = 0x0C then regErr s
  else if addr = 0x10 then regToneHp s
  else if addr = 0x14 then regToneCnt s
  else if addr = 0x18 then regSweepStep s
  else if addr = 0x1C then regSweepFloor s
  else if addr = 0x20 then regTeHp s
  else if addr = 0x24 then regTeRemain s
  else if addr = 0x28 then regTeCtrl s
  else if addr = 0x2C then regTeReload s
  else if addr = 0x30 then regDebResult s
  else if addr = 0x34 then regDebLeft s
  else if addr = 0x38 then regRngState s
  else if addr = 0x3C then regRngOut s
  else 0#32

end Sys2Proof.Machine
end

