-- ==== Sys2Proof/Machine/Ops.lean ====
section
/-! DEFINITION. The named operations on the state: the bus reply of a transaction, taking a bus error and the return from
it, the Tone Engine's primitives, and the internal steps (00_scope.md R10). Where a rule says a counter cannot wrap, it
cannot in a state that meets R29; elsewhere the model wraps (notes/assumptions/8.md). -/
namespace Sys2Proof.Machine

/-! ### The bus reply -/

/-- A read's reply (R110). -/
def replyRead (v : Word) (s : State) : State := { s with busRdataQ := v, busErrQ := false }

/-- The reply of an accepted write (R110), and of a cycle without a transaction (R51). -/
def replyZero (s : State) : State := { s with busRdataQ := 0#32, busErrQ := false }

/-! ### Errors: SRIB's exception and the return from it -/

/-- `raise BusError(code)` (R215): the first error's code is kept (R210), and nothing else is written. -/
def raiseBusError (e : BusError) (s : State) : State :=
  { s with
    errCode := if s.errCode = 0#4 then e.code else s.errCode
    busErrQ := true
    busRdataQ := 0#32 }

/-- The return from an error (R221): CLR_ERR clears `err_code` and so re-arms recording (R113). -/
def clearErr (s : State) : State := { s with errCode := 0#4 }

/-! ### Tone Engine -/

/-- `Arm(s, hp, n, cb)` (R165); `aud_phase` is not written. -/
def arm (hp n : Half) (cb : Cb) (s : State) : State :=
  { s with teHp := hp, teRemaining := n, teCb := cb, tePhaseCnt := 0#16, teActive := true, audEn := true }

/-- `DoStop(s)` (R166); `te_hp`, `te_cb`, `te_reload`, `te_step` and `te_floor` are kept. -/
def doStop (s : State) : State :=
  { s with teActive := false, audEn := false, audPhase := false, teRemaining := 0#16, tePhaseCnt := 0#16 }

/-- The part of TONE_START that latches the chain's parameters from the staging registers (R150). -/
def latchChain (s : State) : State :=
  { s with teReload := s.stgCnt, teStep := s.stgStep, teFloor := s.stgFloor }

/-- The bus error TONE_START raises in this state, if any, in the order of R150 and R212; a reserved CB is caught before
the tests on the state (R84, R212; notes/assumptions/17.md). -/
def toneStartError (cb : BitVec 2) (s : State) : Option BusError :=
  if cbLegal cb = false then some .rsvBits
  else if s.teActive then some .teBusy
  else if s.stgHp = 0#16 ∨ s.stgCnt = 0#16 then some .teZero
  else if cb = 1#2 ∧ s.stgStep = 0#16 then some .teZero
  else none

/-- The effect of an accepted TONE_START (R150). -/
def toneStart (cb : BitVec 2) (s : State) : State := arm s.stgHp s.stgCnt (cbOfBits cb) (latchChain s)

/-- `SweepAction(s)` (R173): the next tone's half-period is `te_hp - te_step`, unless that is 0 or below the floor. -/
def sweepAction (s : State) : State :=
  if s.teStep < s.teHp ∧ s.teFloor ≤ s.teHp - s.teStep then arm (s.teHp - s.teStep) s.teReload .sweep s
  else doStop s

/-- `StopAction(s)` (R172). -/
def stopAction (s : State) : State := doStop s

/-- `Complete(s)` (R171). -/
def complete (s : State) : State :=
  match s.teCb with
  | .stop => stopAction s
  | .sweep => sweepAction s

/-- The timer fires (R170): toggle, decrement, and at 0 go Idle and complete, in the same step. -/
def timerFires (s : State) : State :=
  let toggled := { s with tePhaseCnt := 0#16, audPhase := !s.audPhase, teRemaining := s.teRemaining - 1#16 }
  if s.teRemaining - 1#16 = 0#16 then complete { toggled with teActive := false } else toggled

/-- `TickStep(s)` (R170). -/
def tickStep (s : State) : State :=
  if s.teActive then
    if s.tePhaseCnt + 1#16 < s.teHp then { s with tePhaseCnt := s.tePhaseCnt + 1#16 } else timerFires s
  else s

/-! ### Input Debouncer -/

/-- The effect of an accepted DEB_START (R130). -/
def debStart (timeout : Half) (s : State) : State :=
  { s with debAcc := 0#4, debLast := 0#4, debRel := false, debLeft := timeout, debBusy := timeout != 0#16 }

/-- `SampleStep(s, btn)` (R131): release after a press is tested before the budget. -/
def sampleStep (btn : ButtonMask) (s : State) : State :=
  if s.debBusy then
    let acc := s.debAcc ||| btn
    let left := s.debLeft - 1#16
    let sampled := { s with debAcc := acc, debLast := btn, debLeft := left }
    if acc ≠ 0#4 ∧ btn = 0#4 then { sampled with debBusy := false, debRel := true }
    else if left = 0#16 then { sampled with debBusy := false, debRel := false }
    else sampled
  else s

/-! ### Random Sequence Generator -/

/-- The LCG step `(mixed * 22695477 + 1) mod 2^32` (R190; LCG_A and LCG_C of R7). The constant factor stands first
because Lean's kernel unfolds a product along its second factor. -/
def lcg (mixed : Word) : Word := 22695477#32 * mixed + 1#32

/-- The effect of RNG_DRAW (R190): entropy into the low FRC_W bits, the LCG step, the index from bits [25:24]. -/
def rngDraw (s : State) : State :=
  { s with
    rngState := lcg (s.rngState ^^^ frcIn s)
    rngOut := (lcg (s.rngState ^^^ frcIn s)).extractLsb' 24 2
    rngValid := true }

/-! ### The cycle's other parts -/

/-- `ResetStep` (R240): every field of 10_state.md section 3 takes its reset value; the inputs and the parameter FRC_W
are not that state. -/
def resetStep (s : State) : State :=
  { State.reset with ports := s.ports, frcTop := s.frcTop, script := s.script, drawn := s.drawn }

/-- The inputs of the next cycle come onto the ports: the script's head, or a free value when there is none (R14). -/
def takeInputs (s : State) : State :=
  match s.script with
  | [] => { s with ports := Config.freeCycle s.drawn, drawn := s.drawn + 1 }
  | p :: rest => { s with ports := p, script := rest }

/-- TickStep runs in a cycle with `tick = 1` (R170). -/
def tickPhase (s : State) : State := if s.ports.tick then tickStep s else s

/-- SampleStep runs in a cycle with `sample_stb = 1` (R131). -/
def samplePhase (s : State) : State := if s.ports.sampleStb then sampleStep s.ports.btn s else s

/-- The transaction word on the bus ports (R50). -/
def portsTw (p : Ports) : Tw := BitVec.ofBool p.busWe ++ p.busAddr ++ p.busWdata

end Sys2Proof.Machine
end

