-- ==== Sys2Proof/Machine/Debouncer.lean ====
section
/-! DEFINITION. The transactions of the Input Debouncer (41_debouncer.md). -/
namespace Sys2Proof.Machine

/-- RD_DEB_RESULT (R132). -/
def execRdDebResult (s : State) : Host.Outcome State Fault Refusal := .next (replyRead (regDebResult s) s)

/-- RD_DEB_LEFT (R133). -/
def execRdDebLeft (s : State) : Host.Outcome State Fault Refusal := .next (replyRead (regDebLeft s) s)

/-- DEB_START (R130): refused with DEB_BUSY while a wait is in progress; the running wait goes on unchanged. -/
def execDebStart (timeout : Half) (s : State) : Host.Outcome State Fault Refusal :=
  if s.debBusy then .next (raiseBusError .debBusy s) else .next (replyZero (debStart timeout s))

end Sys2Proof.Machine
end

