-- ==== Sys2Proof/Machine/General.lean ====
section
/-! DEFINITION. The transactions that belong to no unit (40_bus_access.md): NOP, CLR_ERR and the reads of ID, STATUS and
ERR. None of them can raise a bus error once decoded. -/
namespace Sys2Proof.Machine

/-- RD_ID (R114). -/
def execRdId (s : State) : Host.Outcome State Fault Refusal := .next (replyRead regId s)

/-- RD_STATUS (R115). -/
def execRdStatus (s : State) : Host.Outcome State Fault Refusal := .next (replyRead (regStatus s) s)

/-- RD_ERR (R116): reading ERR does not clear it. -/
def execRdErr (s : State) : Host.Outcome State Fault Refusal := .next (replyRead (regErr s) s)

/-- NOP (R112). -/
def execNop (s : State) : Host.Outcome State Fault Refusal := .next (replyZero s)

/-- CLR_ERR (R113), the return from an error (R221). -/
def execClrErr (s : State) : Host.Outcome State Fault Refusal := .next (replyZero (clearErr s))

end Sys2Proof.Machine
end

