-- ==== Sys2Proof/Machine/Rng.lean ====
section
/-! DEFINITION. The transactions of the Random Sequence Generator (43_prng.md). -/
namespace Sys2Proof.Machine

/-- RD_RNG_STATE (R192): reading does not advance the generator. -/
def execRdRngState (s : State) : Host.Outcome State Fault Refusal := .next (replyRead (regRngState s) s)

/-- RD_RNG_OUT (R193): a read does not draw. -/
def execRdRngOut (s : State) : Host.Outcome State Fault Refusal := .next (replyRead (regRngOut s) s)

/-- WR_RNG_STATE, a seed (R191): `rng_out` and `rng_valid` are unchanged. -/
def execWrRngState (seed : Word) (s : State) : Host.Outcome State Fault Refusal :=
  .next (replyZero { s with rngState := seed })

/-- RNG_DRAW (R190): legal at any time; `frc` is the level of the port in this cycle. -/
def execRngDraw (s : State) : Host.Outcome State Fault Refusal := .next (replyZero (rngDraw s))

end Sys2Proof.Machine
end

