-- ==== Sys2Proof/Machine/Tone.lean ====
section
/-! DEFINITION. The transactions of the Tone Engine (42_tone_engine.md). -/
namespace Sys2Proof.Machine

/-- RD_TONE_HP (R153): the staged value, not the armed one. -/
def execRdToneHp (s : State) : Host.Outcome State Fault Refusal := .next (replyRead (regToneHp s) s)

/-- RD_TONE_CNT (R155). -/
def execRdToneCnt (s : State) : Host.Outcome State Fault Refusal := .next (replyRead (regToneCnt s) s)

/-- RD_SWEEP_STEP (R157). -/
def execRdSweepStep (s : State) : Host.Outcome State Fault Refusal := .next (replyRead (regSweepStep s) s)

/-- RD_SWEEP_FLOOR (R159). -/
def execRdSweepFloor (s : State) : Host.Outcome State Fault Refusal := .next (replyRead (regSweepFloor s) s)

/-- RD_TE_HP (R160). -/
def execRdTeHp (s : State) : Host.Outcome State Fault Refusal := .next (replyRead (regTeHp s) s)

/-- RD_TE_REMAIN (R161). -/
def execRdTeRemain (s : State) : Host.Outcome State Fault Refusal := .next (replyRead (regTeRemain s) s)

/-- RD_TE_CTRL (R162). -/
def execRdTeCtrl (s : State) : Host.Outcome State Fault Refusal := .next (replyRead (regTeCtrl s) s)

/-- RD_TE_RELOAD (R163). -/
def execRdTeReload (s : State) : Host.Outcome State Fault Refusal := .next (replyRead (regTeReload s) s)

/-- WR_TONE_HP (R152): HP = 0 is stored; a running tone is not changed. -/
def execWrToneHp (hp : Half) (s : State) : Host.Outcome State Fault Refusal :=
  .next (replyZero { s with stgHp := hp })

/-- WR_TONE_CNT (R154). -/
def execWrToneCnt (cnt : Half) (s : State) : Host.Outcome State Fault Refusal :=
  .next (replyZero { s with stgCnt := cnt })

/-- WR_SWEEP_STEP (R156). -/
def execWrSweepStep (step : Half) (s : State) : Host.Outcome State Fault Refusal :=
  .next (replyZero { s with stgStep := step })

/-- WR_SWEEP_FLOOR (R158). -/
def execWrSweepFloor (floor : Half) (s : State) : Host.Outcome State Fault Refusal :=
  .next (replyZero { s with stgFloor := floor })

/-- TONE_START (R150): a refused one changes nothing but the error state. -/
def execToneStart (cb : BitVec 2) (s : State) : Host.Outcome State Fault Refusal :=
  match toneStartError cb s with
  | some e => .next (raiseBusError e s)
  | none => .next (replyZero (toneStart cb s))

/-- TONE_STOP (R151): valid from any state, never TE_BUSY. -/
def execToneStop (s : State) : Host.Outcome State Fault Refusal := .next (replyZero (doStop s))

end Sys2Proof.Machine
end

