-- ==== Sys2Proof/Machine/Dispatch.lean ====
section
/-! DEFINITION. Which meaning each instruction has, one arm per constructor: `Perform` and the reads of
40_bus_access.md R110. -/
namespace Sys2Proof.Machine

def exec (i : Instr) (s : State) : Host.Outcome State Fault Refusal :=
  match i with
  | .rdId => Sys2Proof.Machine.execRdId s
  | .rdStatus => Sys2Proof.Machine.execRdStatus s
  | .rdErr => Sys2Proof.Machine.execRdErr s
  | .rdToneHp => Sys2Proof.Machine.execRdToneHp s
  | .rdToneCnt => Sys2Proof.Machine.execRdToneCnt s
  | .rdSweepStep => Sys2Proof.Machine.execRdSweepStep s
  | .rdSweepFloor => Sys2Proof.Machine.execRdSweepFloor s
  | .rdTeHp => Sys2Proof.Machine.execRdTeHp s
  | .rdTeRemain => Sys2Proof.Machine.execRdTeRemain s
  | .rdTeCtrl => Sys2Proof.Machine.execRdTeCtrl s
  | .rdTeReload => Sys2Proof.Machine.execRdTeReload s
  | .rdDebResult => Sys2Proof.Machine.execRdDebResult s
  | .rdDebLeft => Sys2Proof.Machine.execRdDebLeft s
  | .rdRngState => Sys2Proof.Machine.execRdRngState s
  | .rdRngOut => Sys2Proof.Machine.execRdRngOut s
  | .wrToneHp hp => Sys2Proof.Machine.execWrToneHp hp s
  | .wrToneCnt cnt => Sys2Proof.Machine.execWrToneCnt cnt s
  | .wrSweepStep step => Sys2Proof.Machine.execWrSweepStep step s
  | .wrSweepFloor floor => Sys2Proof.Machine.execWrSweepFloor floor s
  | .wrRngState seed => Sys2Proof.Machine.execWrRngState seed s
  | .nop => Sys2Proof.Machine.execNop s
  | .toneStart cb => Sys2Proof.Machine.execToneStart cb s
  | .toneStop => Sys2Proof.Machine.execToneStop s
  | .debStart timeout => Sys2Proof.Machine.execDebStart timeout s
  | .rngDraw => Sys2Proof.Machine.execRngDraw s
  | .clrErr => Sys2Proof.Machine.execClrErr s

end Sys2Proof.Machine
end

