-- ==== Sys2Proof/Machine/Cycle.lean ====
section
/-! DEFINITION. One clock cycle (00_scope.md R10): the host's step on the bus ports, and the order ResetStep, TickStep,
SampleStep, HostStep. -/
namespace Sys2Proof.Machine

/-- `HostStep(tw, frc)` (R110): the word's instruction, or the bus error it raises. -/
def hostStep (tw : Tw) (s : State) : Host.Outcome State Fault Refusal :=
  match decode tw with
  | .instr i => exec i s
  | .error e => .next (raiseBusError e s)

/-- HostStep runs in a cycle with `bus_valid = 1`; another cycle leaves `bus_rdata_q <- 0`, `bus_err_q <- 0` (R51, R110). -/
def hostPhase (s : State) : Host.Outcome State Fault Refusal :=
  if s.ports.busValid then hostStep (portsTw s.ports) s else .next (replyZero s)

/-- The cycle on the inputs that stand on the ports (R10, R227); a cycle with `rst = 1` runs only ResetStep (R240). -/
def cycle (s : State) : Host.Outcome State Fault Refusal :=
  if s.ports.rst then .next (resetStep s) else hostPhase (samplePhase (tickPhase s))

/-- The inputs of a cycle that presents one transaction and asserts no strobe, with `btn` and `frc` 0. -/
def presentWord (tw : Tw) : Ports :=
  { Ports.idle with busValid := true, busWe := twWe tw, busAddr := twAddr tw, busWdata := twData tw }

end Sys2Proof.Machine
end

