-- ==== Sys2Proof/Machine/Step.lean ====
section
/-! DEFINITION. One step of the machine: one clock cycle (10_state.md R21), on the next inputs of `script` or on free
ones (notes/assumptions/1.md). -/
namespace Sys2Proof.Machine

/-- One clock cycle. -/
def step (s : State) : Host.Outcome State Fault Refusal := cycle (takeInputs s)

/-- The state whose next cycle presents the transaction word w, before the cycles `script` already holds. SRIB fetches
nothing: the host presents the word (notes/assumptions/2.md). -/
def State.withFetchWord (s : State) (_nbits w : Nat) : State :=
  { s with script := presentWord (BitVec.ofNat 41 w) :: s.script }

end Sys2Proof.Machine
end

