-- ==== Sys2Proof/Machine/BusRules.lean ====
section
/-! DEFINITION. HostStep a second time, as 40_bus_access.md R110 and 60_exceptions.md R212 write it: one list of checks
on the raw transaction, then ReadReg or Perform by address. The machine runs decode and exec (Machine/Cycle.lean); that
the two agree is a statement. -/
namespace Sys2Proof.Machine

/-- `RO_SET` (R212). -/
def roSet : List Offset := [0x00, 0x08, 0x0C, 0x20, 0x24, 0x28, 0x2C, 0x30, 0x34, 0x3C]

/-- The offsets of the staging registers (R81). -/
def stagingSet : List Offset := [0x10, 0x14, 0x18, 0x1C]

/-- The part of `Check` that looks at a command word and the state (R212). -/
def checkCmd (s : State) (op : BitVec 4) (pl : BitVec 28) : BitVec 4 :=
  if 0x5#4 ≤ op ∧ op ≤ 0xE#4 then 1
  else if op = 0x1 ∧ (pl.extractLsb' 2 26 ≠ 0#26 ∨ 2#2 ≤ pl.extractLsb' 0 2) then 2
  else if op = 0x3 ∧ pl.extractLsb' 16 12 ≠ 0#12 then 2
  else if op ∈ [0x0#4, 0x2#4, 0x4#4, 0xF#4] ∧ pl ≠ 0#28 then 2
  else if op = 0x1 ∧ s.teActive = true then 3
  else if op = 0x1 ∧ (s.stgHp = 0#16 ∨ s.stgCnt = 0#16) then 4
  else if op = 0x1 ∧ pl.extractLsb' 0 2 = 1#2 ∧ s.stgStep = 0#16 then 4
  else if op = 0x3 ∧ s.debBusy = true then 5
  else 0

/-- `Check(s, we, addr, data)` (R212): the first test that holds gives the code; 0 is no error. -/
def check (s : State) (we : Bool) (addr : Offset) (data : Word) : BitVec 4 :=
  if addr.extractLsb' 0 2 ≠ 0#2 then 9
  else if 0x40#8 ≤ addr then 6
  else if we = true ∧ addr ∈ roSet then 7
  else if we = false ∧ addr = 0x04 then 8
  else if we = false then 0
  else if addr ∈ stagingSet ∧ data.extractLsb' 16 16 ≠ 0#16 then 2
  else if addr ≠ 0x04 then 0
  else checkCmd s (cmdOp data) (cmdPayload data)

/-- The command of an accepted CMD write, by its opcode (R83). -/
def performCmd (s : State) (op : BitVec 4) (pl : BitVec 28) : State :=
  if op = 0x0 then s
  else if op = 0x1 then toneStart (pl.extractLsb' 0 2) s
  else if op = 0x2 then doStop s
  else if op = 0x3 then debStart (pl.extractLsb' 0 16) s
  else if op = 0x4 then rngDraw s
  else clearErr s

/-- `Perform(s, addr, data, frc)` (R110): the rule of the transaction's row; `frc` stands on the ports. -/
def perform (s : State) (addr : Offset) (data : Word) : State :=
  if addr = 0x10 then { s with stgHp := data.extractLsb' 0 16 }
  else if addr = 0x14 then { s with stgCnt := data.extractLsb' 0 16 }
  else if addr = 0x18 then { s with stgStep := data.extractLsb' 0 16 }
  else if addr = 0x1C then { s with stgFloor := data.extractLsb' 0 16 }
  else if addr = 0x38 then { s with rngState := data }
  else performCmd s (cmdOp data) (cmdPayload data)

/-- `HostStep(s, tw, frc)` (R110), with the effects of an error (R215). -/
def hostStepRule (s : State) (tw : Tw) : State :=
  if check s (twWe tw) (twAddr tw) (twData tw) ≠ 0#4 then
    { s with
      errCode := if s.errCode = 0#4 then check s (twWe tw) (twAddr tw) (twData tw) else s.errCode
      busErrQ := true
      busRdataQ := 0#32 }
  else if twWe tw = false then { s with busRdataQ := readReg s (twAddr tw), busErrQ := false }
  else { perform s (twAddr tw) (twData tw) with busRdataQ := 0#32, busErrQ := false }

end Sys2Proof.Machine
end

