-- ==== Sys2Proof/Machine/HostProgram.lean ====
section
/-! DEFINITION. The lines of a host program (30_encoding.md R100, R101) and the cycle inputs they stand for, the run of a
program and what is observed of it (70_reset_and_hazards.md R258), and the pseudo-instructions (R102 to R105) as lists
of lines. The text of a line (numbers, comments, register names) is not
modelled; the host's polling loop is a number of polls (notes/assumptions/12.md, 13.md). -/
namespace Sys2Proof.Machine

/-- One bus transaction (R100). -/
inductive Txn where
  /-- `rd REG` -/
  | rd (off : Offset)
  /-- `wr REG, imm32`, of which `cmd` with a raw word is the case REG = CMD -/
  | wr (off : Offset) (imm : Word)
  /-- `cmd NOP`, `cmd TONE_START, STOP`, ...: the instruction by name -/
  | named (i : Instr)
  deriving DecidableEq, Repr

/-- The strobe that may stand before a transaction line (R101). -/
inductive Strobe where
  | none
  | tick
  | sample (mask : ButtonMask)
  deriving DecidableEq, Repr

/-- One line of a host program or of its stimulus (R100, R101). -/
inductive Line where
  /-- a transaction, with or without a strobe in the same cycle -/
  | bus (strobe : Strobe) (t : Txn)
  /-- `@idle n`: n cycles without transaction or strobe -/
  | idle (n : Nat)
  /-- `@tick n`: n cycles with `tick` alone -/
  | tick (n : Nat)
  /-- `@sample mask4`: 1 cycle -/
  | sample (mask : ButtonMask)
  /-- `@frc v`: the value of `frc` for every following cycle until the next such line; itself 1 cycle (DESIGN CHOICE,
  notes/assumptions/18.md) -/
  | frc (v : Word)
  /-- `@reset`: 1 cycle -/
  | reset
  deriving DecidableEq, Repr

/-- The transaction word of a line (R100). -/
def txnWord : Txn → Tw
  | .rd off => readWord off
  | .wr off imm => writeWord off imm
  | .named i => encode i

/-- The ports with a strobe asserted (R101). -/
def withStrobe (st : Strobe) (p : Ports) : Ports :=
  match st with
  | .none => p
  | .tick => { p with tick := true }
  | .sample mask => { p with sampleStb := true, btn := mask }

/-- The cycle inputs of one line, one entry a cycle, while `frc` holds the given value (R101): "each line is one clock
cycle unless it gives a count". The line `@frc v` names no cycle of its own; the model gives it one, with no
transaction and no strobe and the value `frc` held before (DESIGN CHOICE, notes/assumptions/18.md). -/
def lineCycles (frc : Word) : Line → List Ports
  | .bus st t => [withStrobe st { presentWord (txnWord t) with frc := frc }]
  | .idle n => List.replicate n { Ports.idle with frc := frc }
  | .tick n => List.replicate n { Ports.idle with frc := frc, tick := true }
  | .sample mask => [withStrobe (.sample mask) { Ports.idle with frc := frc }]
  | .frc _ => [{ Ports.idle with frc := frc }]
  | .reset => [{ Ports.idle with frc := frc, rst := true }]

/-- The value of `frc` in the cycles that follow a line (R101). -/
def frcAfter (frc : Word) : Line → Word
  | .frc v => v
  | .bus _ _ | .idle _ | .tick _ | .sample _ | .reset => frc

/-- The cycle inputs of a program, when `frc` holds the given value before its first line (R101). -/
def assemble (frc : Word) : List Line → List Ports
  | [] => []
  | l :: rest => lineCycles frc l ++ assemble (frcAfter frc l) rest

/-- A machine about to run a program: its lines' cycles and one cycle more, on the last value of `frc`, in which the
last line's reply stands on the bus (R258). -/
def loadProgram (frc : Word) (prog : List Line) (s : State) : State :=
  { s with script := assemble frc (prog ++ [.idle 1]) }

/-! ### The run of a program and its observation (R258) -/

/-- What stands on `bus_rdata` and `bus_err` in the cycle after a line (R51, R258). -/
structure Reply where
  rdata : Word
  err : Bool
  deriving DecidableEq, Repr

/-- The observation of a run (R258): the reply seen after each line, in order, and the state at the end. -/
structure Observation where
  replies : List Reply
  final : State
  deriving DecidableEq, Repr

/-- The reply on the output ports. -/
def replyOf (s : State) : Reply := { rdata := busRdata s, err := busErr s }

/-- "The state of 10_state.md section 3" and nothing else: the ports, FRC_W and the model's own fields are not part of
it, so they are put at the values they have at State.reset. -/
def sectionThree (s : State) : State :=
  { s with ports := Ports.idle, frcTop := Config.frcTopDefault, script := [], drawn := 0 }

/-- Go on from a next state; a stop stays what it is. -/
def onNext {α β : Type} (o : Host.Outcome α Fault Refusal) (f : α → Host.Outcome β Fault Refusal) :
    Host.Outcome β Fault Refusal :=
  match o with
  | .next a => f a
  | .fault r => .fault r
  | .refused r => .refused r

/-- So many cycles of the machine, on the inputs its script holds. -/
def runSteps (n : Nat) (s : State) : Host.Outcome State Fault Refusal := Host.Core.run Sys2Proof.core n s

/-- A loaded machine through the cycles of these lines: the reply after each line, and the state after the last. A line
of several cycles is looked at after its last one (notes/assumptions/19.md). -/
def runLines (frc : Word) : List Line → State → Host.Outcome Observation Fault Refusal
  | [], s => .next { replies := [], final := s }
  | l :: rest, s =>
    onNext (runSteps (lineCycles frc l).length s) fun t =>
      onNext (runLines (frcAfter frc l) rest t) fun o => .next { o with replies := replyOf t :: o.replies }

/-- The run of a host program from a state and its observation (R258): every line's cycles, then one cycle more, after
which the state is looked at. -/
def observe (frc : Word) (prog : List Line) (s : State) : Host.Outcome Observation Fault Refusal :=
  onNext (runLines frc prog (loadProgram frc prog s)) fun o =>
    onNext (runSteps 1 o.final) fun t => .next { o with final := sectionThree t }

/-- A transaction line with no strobe. -/
def busLine (i : Instr) : Line := .bus .none (.named i)

/-- The host's loop `L: rd STATUS`, as the number of times it goes round (R102). -/
def pollStatus (polls : Nat) : List Line := List.replicate polls (busLine .rdStatus)

/-- `play_blocking hp, n` (R102). -/
def playBlocking (hp n : Half) (polls : Nat) : List Line :=
  [busLine (.wrToneHp hp), busLine (.wrToneCnt n), busLine (.toneStart 0)] ++ pollStatus polls

/-- `wait_for_buttons ms` (R103), with the ms to samples conversion the host made. -/
def waitForButtons (timeout : Half) (polls : Nat) : List Line :=
  busLine (.debStart timeout) :: pollStatus polls ++ [busLine .rdDebResult]

/-- `ms/5`, "integer division by the source's sampling interval"; for other ms "the host rounds as it chooses" (R103),
so the timeouts are the quotient rounded down or up. -/
def samplesOfMs (ms : Nat) : List Nat := [ms / 5, (ms + 4) / 5]

/-- `draw` (R104). -/
def draw : List Line := [busLine .rngDraw, busLine .rdRngOut]

/-- `count_buttons` (R104): the host takes POP of what it reads. -/
def countButtons : List Line := [busLine .rdDebResult]

/-- `sweep hp, n, step, floor` (R105). -/
def sweep (hp n step floor : Half) (polls : Nat) : List Line :=
  [busLine (.wrToneHp hp), busLine (.wrToneCnt n), busLine (.wrSweepStep step), busLine (.wrSweepFloor floor),
    busLine (.toneStart 1)] ++ pollStatus polls

/-- A quotient "rounded as the host chooses" (R102): down or up. -/
def roundings (num den : Nat) : List Nat := [num / den, (num + den - 1) / den]

/-- The half-periods a host may take for frequency f (Hz) at F_TICK ticks per second: `F_TICK / (2 * f)` (R102). F_TICK
is an argument, as R7 asks (notes/assumptions/5.md). -/
def toneHalfPeriods (fTick f : Nat) : List Nat := roundings fTick (2 * f)

/-- The counts a host may take for frequency f (Hz) and duration d (ms): `2 * f * d` half-periods (R102). -/
def toneCounts (f dMs : Nat) : List Nat := roundings (2 * f * dMs) 1000

end Sys2Proof.Machine
end

