-- ==== Sys2Proof/Safety.lean ====
section
/-! DEFINITION. What counts as a safe state of SRIB (10_state.md R29, 93_implementation_defined.md section 3), and the runs
the statements speak of: ticks in a row, samples in a row, cycles in a row. -/
namespace Sys2Proof.Machine

/-- R29, the Tone Engine's clauses; `te_cb` in {0, 1} holds by its type. -/
abbrev ToneInv (s : State) : Prop :=
  (s.teActive = true → 1#16 ≤ s.teHp ∧ s.tePhaseCnt < s.teHp ∧ 1#16 ≤ s.teRemaining ∧ s.audEn = true) ∧
  (s.teActive = false → s.audEn = false ∧ s.audPhase = false ∧ s.teRemaining = 0#16 ∧ s.tePhaseCnt = 0#16) ∧
  (s.teCb = .sweep ∧ s.teActive = true → 1#16 ≤ s.teStep)

/-- R29, the debouncer's clause. -/
abbrev WaitInv (s : State) : Prop := s.debBusy = true → 1#16 ≤ s.debLeft

/-- R29 whole. -/
abbrev R29Inv (s : State) : Prop := ToneInv s ∧ WaitInv s

/-- What R29 needs beside it to be kept by every step, and more that the rules keep: a chain's count is not 0 (R150), a
running wait has neither ended by release nor been due to (R130, R131), the last sample is in the accumulation (R131),
no index before the first draw (R45), no reserved error code (R211). -/
abbrev SupportInv (s : State) : Prop :=
  (s.teCb = .sweep ∧ s.teActive = true → 1#16 ≤ s.teReload) ∧
  (s.debBusy = true → s.debRel = false ∧ (s.debAcc = 0#4 ∨ s.debLast ≠ 0#4)) ∧
  (s.debLast ||| s.debAcc = s.debAcc) ∧
  (s.rngValid = false → s.rngOut = 0#2) ∧
  (s.errCode ≤ 9#4)

/-- The invariant of every reachable state. -/
abbrev Invariant (s : State) : Prop := R29Inv s ∧ SupportInv s

/-- The Tone Engine's fields of the two states are equal (R24). -/
abbrev SameEngine (a b : State) : Prop :=
  a.teActive = b.teActive ∧ a.teHp = b.teHp ∧ a.tePhaseCnt = b.tePhaseCnt ∧ a.teRemaining = b.teRemaining ∧
  a.teCb = b.teCb ∧ a.teReload = b.teReload ∧ a.teStep = b.teStep ∧ a.teFloor = b.teFloor ∧ a.audEn = b.audEn ∧
  a.audPhase = b.audPhase

/-- The staging fields of the two states are equal (R25). -/
abbrev SameStaging (a b : State) : Prop :=
  a.stgHp = b.stgHp ∧ a.stgCnt = b.stgCnt ∧ a.stgStep = b.stgStep ∧ a.stgFloor = b.stgFloor

/-- The debouncer's fields of the two states are equal (R26). -/
abbrev SameWait (a b : State) : Prop :=
  a.debBusy = b.debBusy ∧ a.debAcc = b.debAcc ∧ a.debLast = b.debLast ∧ a.debLeft = b.debLeft ∧ a.debRel = b.debRel

/-- The generator's fields of the two states are equal (R27). -/
abbrev SameRng (a b : State) : Prop := a.rngState = b.rngState ∧ a.rngOut = b.rngOut ∧ a.rngValid = b.rngValid

/-- n TickSteps in a row. -/
def ticks : Nat → State → State
  | 0, s => s
  | n + 1, s => ticks n (tickStep s)

/-- SampleSteps in a row, on these levels of `btn`. -/
def samples : List ButtonMask → State → State
  | [], s => s
  | m :: rest, s => samples rest (sampleStep m s)

/-- The instruction a cycle's ports present, if they present one. -/
def presented (p : Ports) : Option Instr :=
  if p.busValid then
    match decode (portsTw p) with
    | .instr i => some i
    | .error _ => none
  else none

/-- The state of a cycle before its HostStep: after its inputs, TickStep and SampleStep (R10). -/
def beforeHost (s : State) : State := samplePhase (tickPhase (takeInputs s))

/-- What one cycle without `rst` does to `rng_state` (R190, R191, R194), from its ports and FRC_W alone. -/
def rngCycle (frcTop : Fin 32) (r : Word) (p : Ports) : Word :=
  match presented p with
  | some .rngDraw => lcg (r ^^^ zextFrc frcTop p.frc)
  | some (.wrRngState seed) => seed
  | _ => r

end Sys2Proof.Machine
end

