-- ==== Sys2Proof/Certificates/Slice0/Obligations.lean ====
section
/-! DEFINITION. The statements about SRIB, for the provers. Each docstring names the rules it formalises. A state on the
right of an equation that is written as a record update of `s` says the whole frame: every field not named is as
before. There is no memory (20_memory.md R50), so no frame speaks of one. -/

open Sys2Proof Sys2Proof.Machine

/-! ### Encoding -/

/-- R80 to R88: the word of every instruction that has one decodes to it, at every value of every operand. -/
def Obligations.DecodeEncodeRoundTrip : Prop :=
  ∀ i : Instr, i.WellFormed → decode (encode i) = .instr i

/-- opcode_table.json, R81: the decoder gives an instruction for exactly the words of its row: the row's mask and match
hold, and for a row that is no read the word is the match with the operand in place (a read ignores DATA). -/
def Obligations.DecodeAcceptsExactlyTheRows : Prop :=
  ∀ (tw : Tw) (i : Instr), decode tw = .instr i ↔
    (i.WellFormed ∧ tw &&& rowMask i = rowMatch i ∧ (i.isRead = false → tw = rowMatch i ||| rowOperand i))

/-- R89: what each word that is no row does; "each raises the bus error named, with the effects of" R215. -/
def Obligations.IllegalWordsRaiseTheirError : Prop :=
  ∀ (tw : Tw) (s : State),
    let raises (code : BitVec 4) : Prop := hostStep tw s =
      .next { s with errCode := if s.errCode = 0 then code else s.errCode, busErrQ := true, busRdataQ := 0 }
    let we : Bool := tw.getLsbD 40
    let addr : BitVec 8 := tw.extractLsb' 32 8
    let op : BitVec 4 := tw.extractLsb' 28 4
    (addr.extractLsb' 0 2 ≠ 0 → raises 9) ∧
    (addr.extractLsb' 0 2 = 0 → 0x40#8 ≤ addr → addr ≤ 0xFC#8 → raises 6) ∧
    (we = true → addr ∈ [0x00#8, 0x08, 0x0C, 0x20, 0x24, 0x28, 0x2C, 0x30, 0x34, 0x3C] → raises 7) ∧
    (we = false → addr = 0x04 → raises 8) ∧
    (we = true → addr ∈ [0x10#8, 0x14, 0x18, 0x1C] → tw.extractLsb' 16 16 ≠ 0#16 → raises 2) ∧
    (we = true → addr = 0x04 → 0x5#4 ≤ op → op ≤ 0xE#4 → raises 1) ∧
    (we = true → addr = 0x04 → op ∈ [0x0#4, 0x2, 0x4, 0xF] → tw.extractLsb' 0 28 ≠ 0#28 → raises 2) ∧
    (we = true → addr = 0x04 → op = 0x1 → (tw.extractLsb' 2 26 ≠ 0#26 ∨ 2#2 ≤ tw.extractLsb' 0 2) → raises 2) ∧
    (we = true → addr = 0x04 → op = 0x3 → tw.extractLsb' 16 12 ≠ 0#12 → raises 2)

/-- Sanity: words written out from the tables of R83, R89 and R100. -/
def Obligations.WrittenOutWordsDecode : Prop :=
  decode 0x00800000000 = .instr .rdStatus ∧ decode 0x0081234ABCD = .instr .rdStatus ∧
  decode 0x11000000003 = .instr (.wrToneHp 3) ∧ decode 0x138FFFFFFFF = .instr (.wrRngState 0xFFFFFFFF) ∧
  decode 0x10410000001 = .instr (.toneStart 1) ∧ decode 0x10430000258 = .instr (.debStart 600) ∧
  decode 0x10440000000 = .instr .rngDraw ∧ decode 0x104F0000000 = .instr .clrErr ∧
  decode 0x10410000002 = .error .rsvBits ∧ decode 0x12000010000 = .error .roWrite

/-! ### The step -/

/-- R10, R110: in a cycle without reset that presents a word of the table, a step is `exec` of its instruction, after
that cycle's inputs, TickStep and SampleStep. -/
def Obligations.StepRunsDecodedInstruction : Prop :=
  ∀ (s : State) (i : Instr), (takeInputs s).ports.rst = false → (takeInputs s).ports.busValid = true →
    decode (portsTw (takeInputs s).ports) = .instr i →
    step s = exec i (samplePhase (tickPhase (takeInputs s)))

/-- The model's own (notes/assumptions/1.md, 2.md): a word placed by `withFetchWord` is the very next instruction. -/
def Obligations.FetchWordIsRunNext : Prop :=
  ∀ (s : State) (nbits w : Nat) (i : Instr), decodeTableWord nbits w = some i →
    step (s.withFetchWord nbits w) = exec i { s with ports := presentWord (BitVec.ofNat 41 w) }

/-- R110, R212, R51, R10: every cycle without reset does what HostStep's pseudocode (Check, then ReadReg or Perform;
`hostStepRule`) does on the state its TickStep and SampleStep leave; a cycle without transaction clears the reply. -/
def Obligations.StepFollowsHostStepRule : Prop :=
  ∀ s : State, (takeInputs s).ports.rst = false →
    step s = .next
      (if (takeInputs s).ports.busValid then hostStepRule (beforeHost s) (portsTw (takeInputs s).ports)
       else { beforeHost s with busRdataQ := 0, busErrQ := false })

/-- R240: a cycle with `rst = 1` leaves every field at its reset value, whatever else is asserted. -/
def Obligations.ResetCycleRunsOnlyReset : Prop :=
  ∀ s : State, (takeInputs s).ports.rst = true →
    step s = .next { takeInputs s with
      teActive := false, teHp := 0, tePhaseCnt := 0, teRemaining := 0, teCb := .stop, teReload := 0, teStep := 0,
      teFloor := 0, audEn := false, audPhase := false, stgHp := 0, stgCnt := 0, stgStep := 0, stgFloor := 0,
      debBusy := false, debAcc := 0, debLast := 0, debLeft := 0, debRel := false, rngState := 0, rngOut := 0,
      rngValid := false, errCode := 0, busRdataQ := 0, busErrQ := false }

/-- R241: "So after reset: ID = 0x53494D4E, RNG_OUT = 0x00000010, every other register reads 0x00000000", both audio
lines 0; the registers are read by their transactions, the fields without one (R47) are compared as they stand. -/
def Obligations.RegistersAfterReset : Prop :=
  (∀ i : Instr, i.isRead = true → exec i State.reset = .next { State.reset with
      busRdataQ := if i = .rdId then 0x53494D4E else if i = .rdRngOut then 0x10 else 0 }) ∧
  audP State.reset = false ∧ audN State.reset = false ∧ busRdata State.reset = 0 ∧ busErr State.reset = false ∧
  State.reset.tePhaseCnt = 0 ∧ State.reset.teStep = 0 ∧ State.reset.teFloor = 0

/-- R216: "An error never stops SRIB": from every state a step gives a next state. -/
def Obligations.EveryStepGivesANextState : Prop :=
  ∀ s : State, ∃ t : State, step s = .next t

/-- The model's own (notes/assumptions/1.md, 4.md): no step changes FRC_W, and each takes one cycle's inputs from the
script, or counts one free cycle when the script is empty. -/
def Obligations.StepTakesOneCycleOfInputs : Prop :=
  ∀ s t : State, step s = .next t →
    t.frcTop = s.frcTop ∧ t.script = s.script.tail ∧
    (∀ (p : Ports) (rest : List Ports), s.script = p :: rest → t.ports = p ∧ t.drawn = s.drawn) ∧
    (s.script = [] → t.ports = Config.freeCycle s.drawn ∧ t.drawn = s.drawn + 1)

/-! ### Invariants -/

/-- R29, R241: the invariant holds right after reset. -/
def Obligations.InvariantHoldsAtReset : Prop := Invariant State.reset

/-- R29, with what it needs beside it: every step keeps it, from every state that meets it, whatever the inputs. -/
def Obligations.EveryStepKeepsTheInvariant : Prop :=
  ∀ s t : State, Invariant s → step s = .next t → Invariant t

/-- R29: every state reached from reset satisfies its clauses, for any cycle inputs (those written in `cs`, then any
the environment makes) and any FRC_W. -/
def Obligations.ReachableStatesSatisfyR29 : Prop :=
  ∀ (cs : List Ports) (top : Fin 32) (n : Nat) (t : State),
    Host.Core.run core n { State.reset with script := cs, frcTop := top } = .next t →
    (t.teActive = true → 1 ≤ t.teHp.toNat ∧ t.tePhaseCnt.toNat < t.teHp.toNat ∧ 1 ≤ t.teRemaining.toNat ∧
      t.audEn = true ∧ (t.teCb = .stop ∨ t.teCb = .sweep)) ∧
    (t.teActive = false → t.audEn = false ∧ t.audPhase = false ∧ t.teRemaining = 0 ∧ t.tePhaseCnt = 0) ∧
    (t.debBusy = true → 1 ≤ t.debLeft.toNat) ∧
    (t.teCb = .sweep → t.teActive = true → 1 ≤ t.teStep.toNat)

/-! ### Errors -/

/-- R213, R215: a transaction that raises a bus error changes nothing of the state its cycle's TickStep and SampleStep
left but `err_code`, `bus_err_q <- 1` and `bus_rdata_q <- 0`. -/
def Obligations.ErrorsArePrecise : Prop :=
  ∀ s t : State, step s = .next t → t.busErrQ = true →
    t = { beforeHost s with errCode := t.errCode, busErrQ := true, busRdataQ := 0 }

/-- R210: `err_code` holds the code of the first bus error since reset or the last accepted CLR_ERR: a transaction that
raises an error pulses `bus_err` and records its code when none is held, else keeps the held one; `err_code` changes in
no other way but by reset and by an accepted CLR_ERR, which leave 0. -/
def Obligations.FirstErrorIsKept : Prop :=
  ∀ s : State,
    let p := (takeInputs s).ports
    let code := check (beforeHost s) (twWe (portsTw p)) (twAddr (portsTw p)) (twData (portsTw p))
    (p.rst = false → p.busValid = true → code ≠ 0 →
      ∃ t, step s = .next t ∧ busErr t = true ∧ t.errCode = if s.errCode = 0 then code else s.errCode) ∧
    (p.rst = true ∨ p.busValid = false ∨ code = 0 →
      ∃ t, step s = .next t ∧ busErr t = false ∧
        (t.errCode = s.errCode ∨ (t.errCode = 0 ∧ (p.rst = true ∨ presented p = some .clrErr))))

/-! ### Reads -/

/-- R114, R116: RD_ID and RD_ERR, with DATA ignored; an erroneous read (at 0x0E) raises ALIGN. -/
def Obligations.IdAndErrReads : Prop :=
  ∀ (s : State) (data : BitVec 32),
    decode (0#1 ++ 0x00#8 ++ data) = .instr .rdId ∧
    exec .rdId s = .next { s with busRdataQ := 0x53494D4E, busErrQ := false } ∧
    decode (0#1 ++ 0x0C#8 ++ data) = .instr .rdErr ∧
    exec .rdErr s = .next { s with busRdataQ := 0#28 ++ s.errCode, busErrQ := false } ∧
    hostStep (0#1 ++ 0x0E#8 ++ data) s =
      .next { s with errCode := if s.errCode = 0 then 9 else s.errCode, busErrQ := true, busRdataQ := 0 }

/-- R115, R32: RD_STATUS, bit by bit. -/
def Obligations.StatusReadShowsTheFlags : Prop :=
  ∀ (s : State) (data : BitVec 32), decode (0#1 ++ 0x08#8 ++ data) = .instr .rdStatus ∧
    ∃ v : Word, exec .rdStatus s = .next { s with busRdataQ := v, busErrQ := false } ∧
      v.getLsbD 0 = s.teActive ∧ v.getLsbD 1 = s.debBusy ∧ v.getLsbD 2 = decide (s.errCode ≠ 0) ∧
      v.getLsbD 3 = s.audEn ∧ v.getLsbD 4 = s.audPhase ∧ ∀ k, 5 ≤ k → v.getLsbD k = false

/-- R153, R155, R157, R159: the reads of the staging registers. -/
def Obligations.StagingReads : Prop :=
  ∀ (s : State) (data : BitVec 32),
    decode (0#1 ++ 0x10#8 ++ data) = .instr .rdToneHp ∧
    exec .rdToneHp s = .next { s with busRdataQ := 0#16 ++ s.stgHp, busErrQ := false } ∧
    decode (0#1 ++ 0x14#8 ++ data) = .instr .rdToneCnt ∧
    exec .rdToneCnt s = .next { s with busRdataQ := 0#16 ++ s.stgCnt, busErrQ := false } ∧
    decode (0#1 ++ 0x18#8 ++ data) = .instr .rdSweepStep ∧
    exec .rdSweepStep s = .next { s with busRdataQ := 0#16 ++ s.stgStep, busErrQ := false } ∧
    decode (0#1 ++ 0x1C#8 ++ data) = .instr .rdSweepFloor ∧
    exec .rdSweepFloor s = .next { s with busRdataQ := 0#16 ++ s.stgFloor, busErrQ := false }

/-- R160 to R163: the reads of the engine registers; CB is 0 for STOP and 1 for SWEEP. -/
def Obligations.EngineReads : Prop :=
  ∀ (s : State) (data : BitVec 32),
    decode (0#1 ++ 0x20#8 ++ data) = .instr .rdTeHp ∧
    exec .rdTeHp s = .next { s with busRdataQ := 0#16 ++ s.teHp, busErrQ := false } ∧
    decode (0#1 ++ 0x24#8 ++ data) = .instr .rdTeRemain ∧
    exec .rdTeRemain s = .next { s with busRdataQ := 0#16 ++ s.teRemaining, busErrQ := false } ∧
    decode (0#1 ++ 0x28#8 ++ data) = .instr .rdTeCtrl ∧
    exec .rdTeCtrl s = .next { s with busRdataQ := if s.teCb = .sweep then 1 else 0, busErrQ := false } ∧
    decode (0#1 ++ 0x2C#8 ++ data) = .instr .rdTeReload ∧
    exec .rdTeReload s = .next { s with busRdataQ := 0#16 ++ s.teReload, busErrQ := false }

/-- R132, R42, R133, R134: the reads of the debouncer; POP is the number of buttons in ACC. -/
def Obligations.DebouncerReads : Prop :=
  ∀ (s : State) (data : BitVec 32),
    decode (0#1 ++ 0x30#8 ++ data) = .instr .rdDebResult ∧
    (∃ v : Word, exec .rdDebResult s = .next { s with busRdataQ := v, busErrQ := false } ∧
      v.extractLsb' 0 4 = s.debAcc ∧
      (v.extractLsb' 4 3).toNat = ((List.range 4).filter (fun k => s.debAcc.getLsbD k)).length ∧
      v.getLsbD 7 = s.debRel ∧ v.extractLsb' 8 4 = s.debLast ∧ v.extractLsb' 12 20 = 0) ∧
    decode (0#1 ++ 0x34#8 ++ data) = .instr .rdDebLeft ∧
    exec .rdDebLeft s = .next { s with busRdataQ := 0#16 ++ s.debLeft, busErrQ := false }

/-- R192, R193, R45: the reads of the generator; ONEHOT has exactly the bit of the index; before any draw RNG_OUT reads
0x00000010. -/
def Obligations.GeneratorReads : Prop :=
  ∀ (s : State) (data : BitVec 32),
    decode (0#1 ++ 0x38#8 ++ data) = .instr .rdRngState ∧
    exec .rdRngState s = .next { s with busRdataQ := s.rngState, busErrQ := false } ∧
    decode (0#1 ++ 0x3C#8 ++ data) = .instr .rdRngOut ∧
    ∃ v : Word, exec .rdRngOut s = .next { s with busRdataQ := v, busErrQ := false } ∧
      v.extractLsb' 0 2 = s.rngOut ∧ v.extractLsb' 2 2 = 0 ∧
      (∀ k, k < 4 → v.getLsbD (4 + k) = decide (s.rngOut.toNat = k)) ∧
      v.getLsbD 8 = s.rngValid ∧ v.extractLsb' 9 23 = 0 ∧ (Invariant s → s.rngValid = false → v = 0x00000010)

/-- R57: no read changes anything but the bus reply, and reading twice gives the same value. -/
def Obligations.ReadsChangeOnlyTheReply : Prop :=
  ∀ (i : Instr) (s : State), i.isRead = true →
    ∃ t : State, exec i s = .next t ∧ t = { s with busRdataQ := t.busRdataQ, busErrQ := false } ∧ exec i t = .next t

/-! ### Writes -/

/-- R152, R154, R156, R158: a staging write stores DATA[15:0] and nothing else; DATA[31:16] must be 0. -/
def Obligations.StagingWrites : Prop :=
  ∀ (s : State) (v : BitVec 16) (data : BitVec 32),
    let refused : State := { s with errCode := if s.errCode = 0 then 2 else s.errCode, busErrQ := true, busRdataQ := 0 }
    decode (1#1 ++ 0x10#8 ++ 0#16 ++ v) = .instr (.wrToneHp v) ∧
    exec (.wrToneHp v) s = .next { s with stgHp := v, busRdataQ := 0, busErrQ := false } ∧
    decode (1#1 ++ 0x14#8 ++ 0#16 ++ v) = .instr (.wrToneCnt v) ∧
    exec (.wrToneCnt v) s = .next { s with stgCnt := v, busRdataQ := 0, busErrQ := false } ∧
    decode (1#1 ++ 0x18#8 ++ 0#16 ++ v) = .instr (.wrSweepStep v) ∧
    exec (.wrSweepStep v) s = .next { s with stgStep := v, busRdataQ := 0, busErrQ := false } ∧
    decode (1#1 ++ 0x1C#8 ++ 0#16 ++ v) = .instr (.wrSweepFloor v) ∧
    exec (.wrSweepFloor v) s = .next { s with stgFloor := v, busRdataQ := 0, busErrQ := false } ∧
    (data.extractLsb' 16 16 ≠ 0#16 →
      hostStep (1#1 ++ 0x10#8 ++ data) s = .next refused ∧ hostStep (1#1 ++ 0x14#8 ++ data) s = .next refused ∧
      hostStep (1#1 ++ 0x18#8 ++ data) s = .next refused ∧ hostStep (1#1 ++ 0x1C#8 ++ data) s = .next refused)

/-- R191: WR_RNG_STATE stores the whole word; every DATA value is legal; `rng_out` and `rng_valid` are unchanged. -/
def Obligations.SeedWrite : Prop :=
  ∀ (s : State) (data : BitVec 32),
    decode (1#1 ++ 0x38#8 ++ data) = .instr (.wrRngState data) ∧
    exec (.wrRngState data) s = .next { s with rngState := data, busRdataQ := 0, busErrQ := false }

/-- R59: "A read that follows a write in a later cycle sees that write": in the next cycle, if it is no reset, whatever
its tick and sample strobes do. -/
def Obligations.ReadAfterWriteSeesTheWrite : Prop :=
  ∀ (s : State) (p q : Ports) (rest : List Ports) (v : Half) (w : Word),
    s.script = p :: q :: rest → p.rst = false → q.rst = false →
    ((presented p = some (.wrToneHp v) → presented q = some .rdToneHp →
      ∃ t, Host.Core.run core 2 s = .next t ∧ busRdata t = v.setWidth 32 ∧ busErr t = false) ∧
     (presented p = some (.wrToneCnt v) → presented q = some .rdToneCnt →
      ∃ t, Host.Core.run core 2 s = .next t ∧ busRdata t = v.setWidth 32 ∧ busErr t = false) ∧
     (presented p = some (.wrSweepStep v) → presented q = some .rdSweepStep →
      ∃ t, Host.Core.run core 2 s = .next t ∧ busRdata t = v.setWidth 32 ∧ busErr t = false) ∧
     (presented p = some (.wrSweepFloor v) → presented q = some .rdSweepFloor →
      ∃ t, Host.Core.run core 2 s = .next t ∧ busRdata t = v.setWidth 32 ∧ busErr t = false) ∧
     (presented p = some (.wrRngState w) → presented q = some .rdRngState →
      ∃ t, Host.Core.run core 2 s = .next t ∧ busRdata t = w ∧ busErr t = false))

/-! ### Commands -/

/-- R112, R113: NOP changes nothing beyond the reply, CLR_ERR clears `err_code`; with a nonzero payload they raise
RSV_BITS, which keeps a held code. -/
def Obligations.NopAndClearError : Prop :=
  ∀ (s : State) (pl : BitVec 28),
    decode (1#1 ++ 0x04#8 ++ 0x00000000#32) = .instr .nop ∧
    exec .nop s = .next { s with busRdataQ := 0, busErrQ := false } ∧
    decode (1#1 ++ 0x04#8 ++ 0xF0000000#32) = .instr .clrErr ∧
    exec .clrErr s = .next { s with errCode := 0, busRdataQ := 0, busErrQ := false } ∧
    (pl ≠ 0#28 →
      hostStep (1#1 ++ 0x04#8 ++ 0x0#4 ++ pl) s =
        .next { s with errCode := if s.errCode = 0 then 2 else s.errCode, busErrQ := true, busRdataQ := 0 } ∧
      hostStep (1#1 ++ 0x04#8 ++ 0xF#4 ++ pl) s =
        .next { s with errCode := if s.errCode = 0 then 2 else s.errCode, busErrQ := true, busRdataQ := 0 })

/-- R150, R165: an accepted TONE_START latches the staging registers and arms the engine; `aud_phase` is not written. -/
def Obligations.ToneStartLatchesAndArms : Prop :=
  ∀ (s : State) (cb : BitVec 2), (cb = 0 ∨ cb = 1) → s.teActive = false → s.stgHp ≠ 0 → s.stgCnt ≠ 0 →
    (cb = 1 → s.stgStep ≠ 0) →
    exec (.toneStart cb) s = .next { s with
      teActive := true, teHp := s.stgHp, tePhaseCnt := 0, teRemaining := s.stgCnt,
      teCb := if cb = 1 then .sweep else .stop, teReload := s.stgCnt, teStep := s.stgStep, teFloor := s.stgFloor,
      audEn := true, busRdataQ := 0, busErrQ := false }

/-- R150, R211, R84: when TONE_START is refused and with which code, in the order of the checks: a reserved CB
RSV_BITS, Active TE_BUSY, a zero half-period or count TE_ZERO, SWEEP with a zero step TE_ZERO. -/
def Obligations.ToneStartRefusals : Prop :=
  ∀ (s : State) (cb : BitVec 2),
    let raises (code : BitVec 4) : Prop := exec (.toneStart cb) s =
      .next { s with errCode := if s.errCode = 0 then code else s.errCode, busErrQ := true, busRdataQ := 0 }
    (2#2 ≤ cb → raises 2) ∧
    (cb < 2#2 → s.teActive = true → raises 3) ∧
    (cb < 2#2 → s.teActive = false → (s.stgHp = 0 ∨ s.stgCnt = 0) → raises 4) ∧
    (cb = 1 → s.teActive = false → s.stgHp ≠ 0 → s.stgCnt ≠ 0 → s.stgStep = 0 → raises 4)

/-- R151, R166: TONE_STOP forces Idle and silence from any state, keeps `te_hp`, `te_cb`, `te_reload`, `te_step` and
`te_floor`, and from Idle (R29) changes no engine field. -/
def Obligations.ToneStopForcesIdle : Prop :=
  (∀ s : State, exec .toneStop s = .next { s with
    teActive := false, audEn := false, audPhase := false, teRemaining := 0, tePhaseCnt := 0,
    busRdataQ := 0, busErrQ := false }) ∧
  (∀ s : State, Invariant s → s.teActive = false → ∃ t, exec .toneStop s = .next t ∧ SameEngine t s)

/-- R151: TONE_STOP "cancels a chain": after a step whose transaction is TONE_STOP the engine is Idle and both audio
lines are 0, whatever that cycle's tick did. -/
def Obligations.ToneStopBeatsTheTick : Prop :=
  ∀ s t : State, (takeInputs s).ports.rst = false → presented (takeInputs s).ports = some .toneStop →
    step s = .next t → t.teActive = false ∧ t.teRemaining = 0 ∧ audP t = false ∧ audN t = false

/-- R130: DEB_START, accepted and refused; TIMEOUT = 0 ends the wait at once. -/
def Obligations.DebStart : Prop :=
  ∀ (s : State) (timeout : BitVec 16) (pl : BitVec 28),
    decode (1#1 ++ 0x04#8 ++ 0x3#4 ++ 0x000#12 ++ timeout) = .instr (.debStart timeout) ∧
    (s.debBusy = false → exec (.debStart timeout) s = .next { s with
      debAcc := 0, debLast := 0, debRel := false, debLeft := timeout, debBusy := decide (timeout ≠ 0),
      busRdataQ := 0, busErrQ := false }) ∧
    (s.debBusy = true → exec (.debStart timeout) s = .next { s with
      errCode := if s.errCode = 0 then 5 else s.errCode, busErrQ := true, busRdataQ := 0 }) ∧
    (pl.extractLsb' 16 12 ≠ 0#12 → hostStep (1#1 ++ 0x04#8 ++ 0x3#4 ++ pl) s = .next { s with
      errCode := if s.errCode = 0 then 2 else s.errCode, busErrQ := true, busRdataQ := 0 })

/-- R190: RNG_DRAW over the integers: `next = ((rng_state xor frc mod 2^FRC_W) * 22695477 + 1) mod 2^32`, the index
bits [25:24]; a nonzero payload raises RSV_BITS. -/
def Obligations.RngDrawIsTheLcgStep : Prop :=
  ∀ (s : State) (pl : BitVec 28),
    decode (1#1 ++ 0x04#8 ++ 0x40000000#32) = .instr .rngDraw ∧
    (∃ (next : Word) (idx : BitVec 2),
      exec .rngDraw s = .next { s with
        rngState := next, rngOut := idx, rngValid := true, busRdataQ := 0, busErrQ := false } ∧
      next.toNat =
        (22695477 * (s.rngState.toNat ^^^ (s.ports.frc.toNat % 2 ^ (s.frcTop.val + 1))) + 1) % 2 ^ 32 ∧
      idx.toNat = next.toNat / 2 ^ 24 % 4) ∧
    (pl ≠ 0#28 → hostStep (1#1 ++ 0x04#8 ++ 0x4#4 ++ pl) s = .next { s with
      errCode := if s.errCode = 0 then 2 else s.errCode, busErrQ := true, busRdataQ := 0 })

/-! ### The internal steps -/

/-- R170 to R173, in states that meet R29 (where no counter wraps), over the integers: a tick while Idle is dropped; a
tick before the half-period's end counts; the last tick of it toggles and decrements; at 0 a STOP tone ends silent and
a SWEEP tone chains, or ends when the next half-period would be 0 or below the floor. -/
def Obligations.TickStepFollowsItsRule : Prop :=
  ∀ s : State, Invariant s →
    (s.teActive = false → tickStep s = s) ∧
    (s.teActive = true → s.tePhaseCnt.toNat + 1 < s.teHp.toNat →
      ∃ c : Half, c.toNat = s.tePhaseCnt.toNat + 1 ∧ tickStep s = { s with tePhaseCnt := c }) ∧
    (s.teActive = true → s.tePhaseCnt.toNat + 1 = s.teHp.toNat → 1 < s.teRemaining.toNat →
      ∃ r : Half, r.toNat + 1 = s.teRemaining.toNat ∧
        tickStep s = { s with tePhaseCnt := 0, audPhase := !s.audPhase, teRemaining := r }) ∧
    (s.teActive = true → s.tePhaseCnt.toNat + 1 = s.teHp.toNat → s.teRemaining.toNat = 1 →
      (s.teCb = .stop ∨ s.teHp.toNat ≤ s.teStep.toNat ∨ s.teHp.toNat - s.teStep.toNat < s.teFloor.toNat) →
      tickStep s = { s with
        teActive := false, audEn := false, audPhase := false, teRemaining := 0, tePhaseCnt := 0 }) ∧
    (s.teActive = true → s.tePhaseCnt.toNat + 1 = s.teHp.toNat → s.teRemaining.toNat = 1 → s.teCb = .sweep →
      s.teStep.toNat < s.teHp.toNat → s.teFloor.toNat ≤ s.teHp.toNat - s.teStep.toNat →
      ∃ hp : Half, hp.toNat = s.teHp.toNat - s.teStep.toNat ∧
        tickStep s = { s with
          teHp := hp, teRemaining := s.teReload, tePhaseCnt := 0, audPhase := !s.audPhase })

/-- R131, in states that meet R29 (where the budget does not wrap): a sample while no wait is busy is dropped; another
is accumulated, and ends the wait by release, or else by an exhausted budget. -/
def Obligations.SampleStepFollowsItsRule : Prop :=
  ∀ (s : State) (btn : ButtonMask), Invariant s →
    (s.debBusy = false → sampleStep btn s = s) ∧
    (s.debBusy = true → ∃ left : Half, left.toNat + 1 = s.debLeft.toNat ∧
      (s.debAcc ||| btn ≠ 0 → btn = 0 → sampleStep btn s = { s with
        debAcc := s.debAcc ||| btn, debLast := btn, debLeft := left, debBusy := false, debRel := true }) ∧
      (s.debAcc ||| btn = 0 ∨ btn ≠ 0 → left = 0 → sampleStep btn s = { s with
        debAcc := s.debAcc ||| btn, debLast := btn, debLeft := left, debBusy := false, debRel := false }) ∧
      (s.debAcc ||| btn = 0 ∨ btn ≠ 0 → left ≠ 0 → sampleStep btn s = { s with
        debAcc := s.debAcc ||| btn, debLast := btn, debLeft := left }))

/-- D21, D42, R47, R227: a tick while the engine is Idle, and a sample while no wait is busy, are lost: the cycle does
what it does without the strobe, with any transaction in it. -/
def Obligations.StrobesAreLostWhileIdle : Prop :=
  ∀ (s : State) (p : Ports) (rest : List Ports),
    (s.teActive = false → ∃ t, step { s with script := { p with tick := true } :: rest } = .next t ∧
      step { s with script := { p with tick := false } :: rest } =
        .next { t with ports := { p with tick := false } }) ∧
    (s.debBusy = false → ∃ t, step { s with script := { p with sampleStb := true } :: rest } = .next t ∧
      step { s with script := { p with sampleStb := false } :: rest } =
        .next { t with ports := { p with sampleStb := false } })

/-! ### The Tone Engine over time -/

/-- R175, R179: a tone just armed toggles for the k-th time in the (k * t)-th tick and not before: after k * t + j
ticks, with k < n and j < t, it has toggled k times, and n - k half-periods remain. -/
def Obligations.ToneTogglesExactly : Prop :=
  ∀ (s : State) (k j : Nat), s.teActive = true → s.tePhaseCnt = 0 → k < s.teRemaining.toNat → j < s.teHp.toNat →
    ∃ c r : Half, c.toNat = j ∧ r.toNat + k = s.teRemaining.toNat ∧
      ticks (k * s.teHp.toNat + j) s = { s with
        tePhaseCnt := c, teRemaining := r, audPhase := s.audPhase ^^ decide (k % 2 = 1) }

/-- R175, R172: a STOP tone of count n and half-period t runs its completion in the (n * t)-th tick: it is Active with
its output driven up to then, and Idle and silent from then on. -/
def Obligations.StopToneEndsExactly : Prop :=
  ∀ (s : State) (m : Nat), s.teActive = true → s.audEn = true → s.tePhaseCnt = 0 → s.teCb = .stop →
    1 ≤ s.teHp.toNat → 1 ≤ s.teRemaining.toNat →
    (m < s.teRemaining.toNat * s.teHp.toNat → (ticks m s).teActive = true ∧ (ticks m s).audEn = true) ∧
    (s.teRemaining.toNat * s.teHp.toNat ≤ m → ticks m s = { s with
      teActive := false, audEn := false, audPhase := false, teRemaining := 0, tePhaseCnt := 0 })

/-- R175, R176: only ticks count: over any cycles without reset, TONE_START and TONE_STOP, the engine is what its ticks
alone make of it; while it is Idle, nothing. -/
def Obligations.EngineTimeIsTheTicks : Prop :=
  ∀ (cs : List Ports) (s : State) (rest : List Ports),
    (∀ p ∈ cs, p.rst = false ∧ presented p ≠ some .toneStop ∧ ∀ cb, presented p ≠ some (.toneStart cb)) →
    ∃ t, Host.Core.run core cs.length { s with script := cs ++ rest } = .next t ∧
      SameEngine t (ticks (cs.countP (fun p => p.tick)) s) ∧ (s.teActive = false → SameEngine t s)

/-- R173, R247: every tone and every chain ends, within `te_remaining * te_hp + te_hp * te_hp * te_reload` ticks. -/
def Obligations.EveryToneAndChainEnds : Prop :=
  ∀ s : State, Invariant s →
    ∃ n, n ≤ s.teRemaining.toNat * s.teHp.toNat + s.teHp.toNat * s.teHp.toNat * s.teReload.toNat ∧
      (ticks n s).teActive = false

/-- R253: "every chained tone has a strictly smaller half-period than the one before": a tick leaves `te_hp` alone, or
arms a chained tone with a smaller one; and the tick that completes a SWEEP tone and leaves the engine Active has made it
smaller. -/
def Obligations.ChainedHalfPeriodsShrink : Prop :=
  ∀ s : State, Invariant s →
    ((tickStep s).teHp = s.teHp ∨
      ((tickStep s).teHp.toNat < s.teHp.toNat ∧ s.teActive = true ∧ s.teCb = .sweep ∧ s.teRemaining = 1 ∧
        (tickStep s).teActive = true ∧ (tickStep s).teRemaining = s.teReload)) ∧
    (s.teActive = true → s.teCb = .sweep → s.teRemaining = 1 → s.tePhaseCnt.toNat + 1 = s.teHp.toNat →
      (tickStep s).teActive = true → (tickStep s).teHp.toNat < s.teHp.toNat)

/-- R174: a chained restart is invisible: a SWEEP tone whose next half-period passes the floor condition reads
TE_ACTIVE = 1 after its tick, whether or not the tick completed it. -/
def Obligations.ChainNeverReadsIdle : Prop :=
  ∀ s : State, s.teActive = true → s.teCb = .sweep → s.teStep.toNat < s.teHp.toNat →
    s.teFloor.toNat ≤ s.teHp.toNat - s.teStep.toNat →
    ∃ t, exec .rdStatus (tickStep s) = .next t ∧ t.busRdataQ.getLsbD 0 = true

/-- R178: the running tone and its chain do not depend on the staging registers: with any other staged values, any
number of ticks gives the same engine, and the staged values stay; and a staging write changes only them, the bus reply
aside, so the engine plays on as without it. -/
def Obligations.RunningToneIgnoresStaging : Prop :=
  ∀ (n : Nat) (s : State) (hp cnt st fl : Half),
    ticks n { s with stgHp := hp, stgCnt := cnt, stgStep := st, stgFloor := fl } =
      { ticks n s with stgHp := hp, stgCnt := cnt, stgStep := st, stgFloor := fl } ∧
    ∀ i ∈ [Instr.wrToneHp hp, .wrToneCnt cnt, .wrSweepStep st, .wrSweepFloor fl],
      ∃ t, exec i s = .next t ∧
        t = { s with
          stgHp := t.stgHp, stgCnt := t.stgCnt, stgStep := t.stgStep, stgFloor := t.stgFloor, busRdataQ := 0,
          busErrQ := false } ∧
        SameEngine (ticks n t) (ticks n s)

/-- R23, R179, D7: while Active the two audio lines are complementary; while Idle both are 0. -/
def Obligations.AudioLinesAreDifferential : Prop :=
  ∀ s : State, Invariant s →
    (s.teActive = true → audP s = s.audPhase ∧ audN s = !audP s) ∧
    (s.teActive = false → audP s = false ∧ audN s = false)

/-! ### The debouncer over time -/

/-- R135: from an accepted DEB_START, as long as the wait is busy before each sample, ACC is the OR of the samples
taken, the last included; so no sample taken has a button that ACC lacks; and no sample after its end counts. -/
def Obligations.WaitAccumulatesItsSamples : Prop :=
  ∀ (s : State) (timeout : Half) (ms : List ButtonMask),
    (∀ k, k < ms.length → (samples (ms.take k) (debStart timeout s)).debBusy = true) →
    (samples ms (debStart timeout s)).debAcc = ms.foldl (fun a m => a ||| m) 0 ∧
    (∀ m ∈ ms, m &&& (samples ms (debStart timeout s)).debAcc = m) ∧
    ((samples ms (debStart timeout s)).debBusy = false →
      ∀ more, samples (ms ++ more) (debStart timeout s) = samples ms (debStart timeout s))

/-- R136: a wait started with TIMEOUT = T ends within T samples, and with no button pressed after exactly T of them,
with the empty mask, by timeout. -/
def Obligations.WaitEndsWithinItsBudget : Prop :=
  ∀ (s : State) (timeout : Half) (ms : List ButtonMask),
    (timeout.toNat ≤ ms.length → (samples ms (debStart timeout s)).debBusy = false) ∧
    ((∀ m ∈ ms, m = 0) →
      (ms.length < timeout.toNat → (samples ms (debStart timeout s)).debBusy = true) ∧
      (samples ms (debStart timeout s)).debAcc = 0 ∧ (samples ms (debStart timeout s)).debRel = false)

/-! ### What changes what -/

/-- R58, R176: the engine's fields change only by a tick, an accepted TONE_START, TONE_STOP and reset. -/
def Obligations.EngineChangesOnlyByItsEvents : Prop :=
  ∀ s t : State, step s = .next t → (takeInputs s).ports.rst = false → (takeInputs s).ports.tick = false →
    presented (takeInputs s).ports ≠ some .toneStop →
    ((∀ cb, presented (takeInputs s).ports ≠ some (.toneStart cb)) ∨ t.busErrQ = true) → SameEngine t s

/-- R25, R178, R58: the staging fields change only by their writes and reset. -/
def Obligations.StagingChangesOnlyByItsWrites : Prop :=
  ∀ s t : State, step s = .next t → (takeInputs s).ports.rst = false →
    (t.stgHp = s.stgHp ∨ presented (takeInputs s).ports = some (.wrToneHp t.stgHp)) ∧
    (t.stgCnt = s.stgCnt ∨ presented (takeInputs s).ports = some (.wrToneCnt t.stgCnt)) ∧
    (t.stgStep = s.stgStep ∨ presented (takeInputs s).ports = some (.wrSweepStep t.stgStep)) ∧
    (t.stgFloor = s.stgFloor ∨ presented (takeInputs s).ports = some (.wrSweepFloor t.stgFloor))

/-- R58, R254: the debouncer's fields change only by a sample, an accepted DEB_START and reset. -/
def Obligations.DebouncerChangesOnlyByItsEvents : Prop :=
  ∀ s t : State, step s = .next t → (takeInputs s).ports.rst = false → (takeInputs s).ports.sampleStb = false →
    ((∀ n, presented (takeInputs s).ports ≠ some (.debStart n)) ∨ t.busErrQ = true) → SameWait t s

/-- R194: `rng_out` and `rng_valid` change only by RNG_DRAW and reset, `rng_state` by these and WR_RNG_STATE; "no other
step reads or writes `rng_state`". -/
def Obligations.GeneratorChangesOnlyByItsEvents : Prop :=
  ∀ s t : State, step s = .next t → (takeInputs s).ports.rst = false →
    presented (takeInputs s).ports ≠ some .rngDraw →
    t.rngOut = s.rngOut ∧ t.rngValid = s.rngValid ∧
    (t.rngState = s.rngState ∨ presented (takeInputs s).ports = some (.wrRngState t.rngState))

/-- R194, R191: over any cycles without reset, `rng_state` is the fold of the draws' and seed writes' cycles alone: a
function of its initial value and of `frc` at the draws; and after a draw the index is two bits of it. -/
def Obligations.GeneratorIsDeterminedByDraws : Prop :=
  ∀ (cs : List Ports) (s : State) (rest : List Ports), (∀ p ∈ cs, p.rst = false) →
    ∃ t, Host.Core.run core cs.length { s with script := cs ++ rest } = .next t ∧
      t.rngState = cs.foldl (rngCycle s.frcTop) s.rngState ∧
      (cs.getLast?.bind presented = some .rngDraw → t.rngOut = t.rngState.extractLsb' 24 2)

/-- R194: two machines that differ in anything but the generator and FRC_W, and run the same cycle's inputs, hold the
same generator after it: no other state flows into it. -/
def Obligations.NothingElseFlowsIntoTheGenerator : Prop :=
  ∀ (a b a' b' : State), SameRng a b → a.frcTop = b.frcTop → (takeInputs a).ports = (takeInputs b).ports →
    step a = .next a' → step b = .next b' → SameRng a' b'
end

