-- ==== Sys2Proof/Laws/State.lean ====
section
/-! SUPPORT. One lemma per field per state update, true by rfl, so that no later proof unfolds a record update. -/
namespace Sys2Proof.Machine

variable (s : State)

@[simp] theorem replyRead_teActive (v : Word) : (replyRead v s).teActive = s.teActive := rfl
@[simp] theorem replyRead_teHp (v : Word) : (replyRead v s).teHp = s.teHp := rfl
@[simp] theorem replyRead_tePhaseCnt (v : Word) : (replyRead v s).tePhaseCnt = s.tePhaseCnt := rfl
@[simp] theorem replyRead_teRemaining (v : Word) : (replyRead v s).teRemaining = s.teRemaining := rfl
@[simp] theorem replyRead_teCb (v : Word) : (replyRead v s).teCb = s.teCb := rfl
@[simp] theorem replyRead_teReload (v : Word) : (replyRead v s).teReload = s.teReload := rfl
@[simp] theorem replyRead_teStep (v : Word) : (replyRead v s).teStep = s.teStep := rfl
@[simp] theorem replyRead_teFloor (v : Word) : (replyRead v s).teFloor = s.teFloor := rfl
@[simp] theorem replyRead_audEn (v : Word) : (replyRead v s).audEn = s.audEn := rfl
@[simp] theorem replyRead_audPhase (v : Word) : (replyRead v s).audPhase = s.audPhase := rfl
@[simp] theorem replyRead_stgHp (v : Word) : (replyRead v s).stgHp = s.stgHp := rfl
@[simp] theorem replyRead_stgCnt (v : Word) : (replyRead v s).stgCnt = s.stgCnt := rfl
@[simp] theorem replyRead_stgStep (v : Word) : (replyRead v s).stgStep = s.stgStep := rfl
@[simp] theorem replyRead_stgFloor (v : Word) : (replyRead v s).stgFloor = s.stgFloor := rfl
@[simp] theorem replyRead_debBusy (v : Word) : (replyRead v s).debBusy = s.debBusy := rfl
@[simp] theorem replyRead_debAcc (v : Word) : (replyRead v s).debAcc = s.debAcc := rfl
@[simp] theorem replyRead_debLast (v : Word) : (replyRead v s).debLast = s.debLast := rfl
@[simp] theorem replyRead_debLeft (v : Word) : (replyRead v s).debLeft = s.debLeft := rfl
@[simp] theorem replyRead_debRel (v : Word) : (replyRead v s).debRel = s.debRel := rfl
@[simp] theorem replyRead_rngState (v : Word) : (replyRead v s).rngState = s.rngState := rfl
@[simp] theorem replyRead_rngOut (v : Word) : (replyRead v s).rngOut = s.rngOut := rfl
@[simp] theorem replyRead_rngValid (v : Word) : (replyRead v s).rngValid = s.rngValid := rfl
@[simp] theorem replyRead_errCode (v : Word) : (replyRead v s).errCode = s.errCode := rfl
@[simp] theorem replyRead_busRdataQ (v : Word) : (replyRead v s).busRdataQ = v := rfl
@[simp] theorem replyRead_busErrQ (v : Word) : (replyRead v s).busErrQ = false := rfl
@[simp] theorem replyRead_ports (v : Word) : (replyRead v s).ports = s.ports := rfl
@[simp] theorem replyRead_frcTop (v : Word) : (replyRead v s).frcTop = s.frcTop := rfl
@[simp] theorem replyRead_script (v : Word) : (replyRead v s).script = s.script := rfl
@[simp] theorem replyRead_drawn (v : Word) : (replyRead v s).drawn = s.drawn := rfl

@[simp] theorem replyZero_teActive : (replyZero s).teActive = s.teActive := rfl
@[simp] theorem replyZero_teHp : (replyZero s).teHp = s.teHp := rfl
@[simp] theorem replyZero_tePhaseCnt : (replyZero s).tePhaseCnt = s.tePhaseCnt := rfl
@[simp] theorem replyZero_teRemaining : (replyZero s).teRemaining = s.teRemaining := rfl
@[simp] theorem replyZero_teCb : (replyZero s).teCb = s.teCb := rfl
@[simp] theorem replyZero_teReload : (replyZero s).teReload = s.teReload := rfl
@[simp] theorem replyZero_teStep : (replyZero s).teStep = s.teStep := rfl
@[simp] theorem replyZero_teFloor : (replyZero s).teFloor = s.teFloor := rfl
@[simp] theorem replyZero_audEn : (replyZero s).audEn = s.audEn := rfl
@[simp] theorem replyZero_audPhase : (replyZero s).audPhase = s.audPhase := rfl
@[simp] theorem replyZero_stgHp : (replyZero s).stgHp = s.stgHp := rfl
@[simp] theorem replyZero_stgCnt : (replyZero s).stgCnt = s.stgCnt := rfl
@[simp] theorem replyZero_stgStep : (replyZero s).stgStep = s.stgStep := rfl
@[simp] theorem replyZero_stgFloor : (replyZero s).stgFloor = s.stgFloor := rfl
@[simp] theorem replyZero_debBusy : (replyZero s).debBusy = s.debBusy := rfl
@[simp] theorem replyZero_debAcc : (replyZero s).debAcc = s.debAcc := rfl
@[simp] theorem replyZero_debLast : (replyZero s).debLast = s.debLast := rfl
@[simp] theorem replyZero_debLeft : (replyZero s).debLeft = s.debLeft := rfl
@[simp] theorem replyZero_debRel : (replyZero s).debRel = s.debRel := rfl
@[simp] theorem replyZero_rngState : (replyZero s).rngState = s.rngState := rfl
@[simp] theorem replyZero_rngOut : (replyZero s).rngOut = s.rngOut := rfl
@[simp] theorem replyZero_rngValid : (replyZero s).rngValid = s.rngValid := rfl
@[simp] theorem replyZero_errCode : (replyZero s).errCode = s.errCode := rfl
@[simp] theorem replyZero_busRdataQ : (replyZero s).busRdataQ = 0#32 := rfl
@[simp] theorem replyZero_busErrQ : (replyZero s).busErrQ = false := rfl
@[simp] theorem replyZero_ports : (replyZero s).ports = s.ports := rfl
@[simp] theorem replyZero_frcTop : (replyZero s).frcTop = s.frcTop := rfl
@[simp] theorem replyZero_script : (replyZero s).script = s.script := rfl
@[simp] theorem replyZero_drawn : (replyZero s).drawn = s.drawn := rfl

@[simp] theorem raiseBusError_teActive (e : BusError) : (raiseBusError e s).teActive = s.teActive := rfl
@[simp] theorem raiseBusError_teHp (e : BusError) : (raiseBusError e s).teHp = s.teHp := rfl
@[simp] theorem raiseBusError_tePhaseCnt (e : BusError) : (raiseBusError e s).tePhaseCnt = s.tePhaseCnt := rfl
@[simp] theorem raiseBusError_teRemaining (e : BusError) : (raiseBusError e s).teRemaining = s.teRemaining := rfl
@[simp] theorem raiseBusError_teCb (e : BusError) : (raiseBusError e s).teCb = s.teCb := rfl
@[simp] theorem raiseBusError_teReload (e : BusError) : (raiseBusError e s).teReload = s.teReload := rfl
@[simp] theorem raiseBusError_teStep (e : BusError) : (raiseBusError e s).teStep = s.teStep := rfl
@[simp] theorem raiseBusError_teFloor (e : BusError) : (raiseBusError e s).teFloor = s.teFloor := rfl
@[simp] theorem raiseBusError_audEn (e : BusError) : (raiseBusError e s).audEn = s.audEn := rfl
@[simp] theorem raiseBusError_audPhase (e : BusError) : (raiseBusError e s).audPhase = s.audPhase := rfl
@[simp] theorem raiseBusError_stgHp (e : BusError) : (raiseBusError e s).stgHp = s.stgHp := rfl
@[simp] theorem raiseBusError_stgCnt (e : BusError) : (raiseBusError e s).stgCnt = s.stgCnt := rfl
@[simp] theorem raiseBusError_stgStep (e : BusError) : (raiseBusError e s).stgStep = s.stgStep := rfl
@[simp] theorem raiseBusError_stgFloor (e : BusError) : (raiseBusError e s).stgFloor = s.stgFloor := rfl
@[simp] theorem raiseBusError_debBusy (e : BusError) : (raiseBusError e s).debBusy = s.debBusy := rfl
@[simp] theorem raiseBusError_debAcc (e : BusError) : (raiseBusError e s).debAcc = s.debAcc := rfl
@[simp] theorem raiseBusError_debLast (e : BusError) : (raiseBusError e s).debLast = s.debLast := rfl
@[simp] theorem raiseBusError_debLeft (e : BusError) : (raiseBusError e s).debLeft = s.debLeft := rfl
@[simp] theorem raiseBusError_debRel (e : BusError) : (raiseBusError e s).debRel = s.debRel := rfl
@[simp] theorem raiseBusError_rngState (e : BusError) : (raiseBusError e s).rngState = s.rngState := rfl
@[simp] theorem raiseBusError_rngOut (e : BusError) : (raiseBusError e s).rngOut = s.rngOut := rfl
@[simp] theorem raiseBusError_rngValid (e : BusError) : (raiseBusError e s).rngValid = s.rngValid := rfl
@[simp] theorem raiseBusError_errCode (e : BusError) : (raiseBusError e s).errCode = (if s.errCode = 0#4 then e.code else s.errCode) := rfl
@[simp] theorem raiseBusError_busRdataQ (e : BusError) : (raiseBusError e s).busRdataQ = 0#32 := rfl
@[simp] theorem raiseBusError_busErrQ (e : BusError) : (raiseBusError e s).busErrQ = true := rfl
@[simp] theorem raiseBusError_ports (e : BusError) : (raiseBusError e s).ports = s.ports := rfl
@[simp] theorem raiseBusError_frcTop (e : BusError) : (raiseBusError e s).frcTop = s.frcTop := rfl
@[simp] theorem raiseBusError_script (e : BusError) : (raiseBusError e s).script = s.script := rfl
@[simp] theorem raiseBusError_drawn (e : BusError) : (raiseBusError e s).drawn = s.drawn := rfl

@[simp] theorem clearErr_teActive : (clearErr s).teActive = s.teActive := rfl
@[simp] theorem clearErr_teHp : (clearErr s).teHp = s.teHp := rfl
@[simp] theorem clearErr_tePhaseCnt : (clearErr s).tePhaseCnt = s.tePhaseCnt := rfl
@[simp] theorem clearErr_teRemaining : (clearErr s).teRemaining = s.teRemaining := rfl
@[simp] theorem clearErr_teCb : (clearErr s).teCb = s.teCb := rfl
@[simp] theorem clearErr_teReload : (clearErr s).teReload = s.teReload := rfl
@[simp] theorem clearErr_teStep : (clearErr s).teStep = s.teStep := rfl
@[simp] theorem clearErr_teFloor : (clearErr s).teFloor = s.teFloor := rfl
@[simp] theorem clearErr_audEn : (clearErr s).audEn = s.audEn := rfl
@[simp] theorem clearErr_audPhase : (clearErr s).audPhase = s.audPhase := rfl
@[simp] theorem clearErr_stgHp : (clearErr s).stgHp = s.stgHp := rfl
@[simp] theorem clearErr_stgCnt : (clearErr s).stgCnt = s.stgCnt := rfl
@[simp] theorem clearErr_stgStep : (clearErr s).stgStep = s.stgStep := rfl
@[simp] theorem clearErr_stgFloor : (clearErr s).stgFloor = s.stgFloor := rfl
@[simp] theorem clearErr_debBusy : (clearErr s).debBusy = s.debBusy := rfl
@[simp] theorem clearErr_debAcc : (clearErr s).debAcc = s.debAcc := rfl
@[simp] theorem clearErr_debLast : (clearErr s).debLast = s.debLast := rfl
@[simp] theorem clearErr_debLeft : (clearErr s).debLeft = s.debLeft := rfl
@[simp] theorem clearErr_debRel : (clearErr s).debRel = s.debRel := rfl
@[simp] theorem clearErr_rngState : (clearErr s).rngState = s.rngState := rfl
@[simp] theorem clearErr_rngOut : (clearErr s).rngOut = s.rngOut := rfl
@[simp] theorem clearErr_rngValid : (clearErr s).rngValid = s.rngValid := rfl
@[simp] theorem clearErr_errCode : (clearErr s).errCode = 0#4 := rfl
@[simp] theorem clearErr_busRdataQ : (clearErr s).busRdataQ = s.busRdataQ := rfl
@[simp] theorem clearErr_busErrQ : (clearErr s).busErrQ = s.busErrQ := rfl
@[simp] theorem clearErr_ports : (clearErr s).ports = s.ports := rfl
@[simp] theorem clearErr_frcTop : (clearErr s).frcTop = s.frcTop := rfl
@[simp] theorem clearErr_script : (clearErr s).script = s.script := rfl
@[simp] theorem clearErr_drawn : (clearErr s).drawn = s.drawn := rfl

@[simp] theorem arm_teActive (hp n : Half) (cb : Cb) : (arm hp n cb s).teActive = true := rfl
@[simp] theorem arm_teHp (hp n : Half) (cb : Cb) : (arm hp n cb s).teHp = hp := rfl
@[simp] theorem arm_tePhaseCnt (hp n : Half) (cb : Cb) : (arm hp n cb s).tePhaseCnt = 0#16 := rfl
@[simp] theorem arm_teRemaining (hp n : Half) (cb : Cb) : (arm hp n cb s).teRemaining = n := rfl
@[simp] theorem arm_teCb (hp n : Half) (cb : Cb) : (arm hp n cb s).teCb = cb := rfl
@[simp] theorem arm_teReload (hp n : Half) (cb : Cb) : (arm hp n cb s).teReload = s.teReload := rfl
@[simp] theorem arm_teStep (hp n : Half) (cb : Cb) : (arm hp n cb s).teStep = s.teStep := rfl
@[simp] theorem arm_teFloor (hp n : Half) (cb : Cb) : (arm hp n cb s).teFloor = s.teFloor := rfl
@[simp] theorem arm_audEn (hp n : Half) (cb : Cb) : (arm hp n cb s).audEn = true := rfl
@[simp] theorem arm_audPhase (hp n : Half) (cb : Cb) : (arm hp n cb s).audPhase = s.audPhase := rfl
@[simp] theorem arm_stgHp (hp n : Half) (cb : Cb) : (arm hp n cb s).stgHp = s.stgHp := rfl
@[simp] theorem arm_stgCnt (hp n : Half) (cb : Cb) : (arm hp n cb s).stgCnt = s.stgCnt := rfl
@[simp] theorem arm_stgStep (hp n : Half) (cb : Cb) : (arm hp n cb s).stgStep = s.stgStep := rfl
@[simp] theorem arm_stgFloor (hp n : Half) (cb : Cb) : (arm hp n cb s).stgFloor = s.stgFloor := rfl
@[simp] theorem arm_debBusy (hp n : Half) (cb : Cb) : (arm hp n cb s).debBusy = s.debBusy := rfl
@[simp] theorem arm_debAcc (hp n : Half) (cb : Cb) : (arm hp n cb s).debAcc = s.debAcc := rfl
@[simp] theorem arm_debLast (hp n : Half) (cb : Cb) : (arm hp n cb s).debLast = s.debLast := rfl
@[simp] theorem arm_debLeft (hp n : Half) (cb : Cb) : (arm hp n cb s).debLeft = s.debLeft := rfl
@[simp] theorem arm_debRel (hp n : Half) (cb : Cb) : (arm hp n cb s).debRel = s.debRel := rfl
@[simp] theorem arm_rngState (hp n : Half) (cb : Cb) : (arm hp n cb s).rngState = s.rngState := rfl
@[simp] theorem arm_rngOut (hp n : Half) (cb : Cb) : (arm hp n cb s).rngOut = s.rngOut := rfl
@[simp] theorem arm_rngValid (hp n : Half) (cb : Cb) : (arm hp n cb s).rngValid = s.rngValid := rfl
@[simp] theorem arm_errCode (hp n : Half) (cb : Cb) : (arm hp n cb s).errCode = s.errCode := rfl
@[simp] theorem arm_busRdataQ (hp n : Half) (cb : Cb) : (arm hp n cb s).busRdataQ = s.busRdataQ := rfl
@[simp] theorem arm_busErrQ (hp n : Half) (cb : Cb) : (arm hp n cb s).busErrQ = s.busErrQ := rfl
@[simp] theorem arm_ports (hp n : Half) (cb : Cb) : (arm hp n cb s).ports = s.ports := rfl
@[simp] theorem arm_frcTop (hp n : Half) (cb : Cb) : (arm hp n cb s).frcTop = s.frcTop := rfl
@[simp] theorem arm_script (hp n : Half) (cb : Cb) : (arm hp n cb s).script = s.script := rfl
@[simp] theorem arm_drawn (hp n : Half) (cb : Cb) : (arm hp n cb s).drawn = s.drawn := rfl

@[simp] theorem doStop_teActive : (doStop s).teActive = false := rfl
@[simp] theorem doStop_teHp : (doStop s).teHp = s.teHp := rfl
@[simp] theorem doStop_tePhaseCnt : (doStop s).tePhaseCnt = 0#16 := rfl
@[simp] theorem doStop_teRemaining : (doStop s).teRemaining = 0#16 := rfl
@[simp] theorem doStop_teCb : (doStop s).teCb = s.teCb := rfl
@[simp] theorem doStop_teReload : (doStop s).teReload = s.teReload := rfl
@[simp] theorem doStop_teStep : (doStop s).teStep = s.teStep := rfl
@[simp] theorem doStop_teFloor : (doStop s).teFloor = s.teFloor := rfl
@[simp] theorem doStop_audEn : (doStop s).audEn = false := rfl
@[simp] theorem doStop_audPhase : (doStop s).audPhase = false := rfl
@[simp] theorem doStop_stgHp : (doStop s).stgHp = s.stgHp := rfl
@[simp] theorem doStop_stgCnt : (doStop s).stgCnt = s.stgCnt := rfl
@[simp] theorem doStop_stgStep : (doStop s).stgStep = s.stgStep := rfl
@[simp] theorem doStop_stgFloor : (doStop s).stgFloor = s.stgFloor := rfl
@[simp] theorem doStop_debBusy : (doStop s).debBusy = s.debBusy := rfl
@[simp] theorem doStop_debAcc : (doStop s).debAcc = s.debAcc := rfl
@[simp] theorem doStop_debLast : (doStop s).debLast = s.debLast := rfl
@[simp] theorem doStop_debLeft : (doStop s).debLeft = s.debLeft := rfl
@[simp] theorem doStop_debRel : (doStop s).debRel = s.debRel := rfl
@[simp] theorem doStop_rngState : (doStop s).rngState = s.rngState := rfl
@[simp] theorem doStop_rngOut : (doStop s).rngOut = s.rngOut := rfl
@[simp] theorem doStop_rngValid : (doStop s).rngValid = s.rngValid := rfl
@[simp] theorem doStop_errCode : (doStop s).errCode = s.errCode := rfl
@[simp] theorem doStop_busRdataQ : (doStop s).busRdataQ = s.busRdataQ := rfl
@[simp] theorem doStop_busErrQ : (doStop s).busErrQ = s.busErrQ := rfl
@[simp] theorem doStop_ports : (doStop s).ports = s.ports := rfl
@[simp] theorem doStop_frcTop : (doStop s).frcTop = s.frcTop := rfl
@[simp] theorem doStop_script : (doStop s).script = s.script := rfl
@[simp] theorem doStop_drawn : (doStop s).drawn = s.drawn := rfl

@[simp] theorem latchChain_teActive : (latchChain s).teActive = s.teActive := rfl
@[simp] theorem latchChain_teHp : (latchChain s).teHp = s.teHp := rfl
@[simp] theorem latchChain_tePhaseCnt : (latchChain s).tePhaseCnt = s.tePhaseCnt := rfl
@[simp] theorem latchChain_teRemaining : (latchChain s).teRemaining = s.teRemaining := rfl
@[simp] theorem latchChain_teCb : (latchChain s).teCb = s.teCb := rfl
@[simp] theorem latchChain_teReload : (latchChain s).teReload = s.stgCnt := rfl
@[simp] theorem latchChain_teStep : (latchChain s).teStep = s.stgStep := rfl
@[simp] theorem latchChain_teFloor : (latchChain s).teFloor = s.stgFloor := rfl
@[simp] theorem latchChain_audEn : (latchChain s).audEn = s.audEn := rfl
@[simp] theorem latchChain_audPhase : (latchChain s).audPhase = s.audPhase := rfl
@[simp] theorem latchChain_stgHp : (latchChain s).stgHp = s.stgHp := rfl
@[simp] theorem latchChain_stgCnt : (latchChain s).stgCnt = s.stgCnt := rfl
@[simp] theorem latchChain_stgStep : (latchChain s).stgStep = s.stgStep := rfl
@[simp] theorem latchChain_stgFloor : (latchChain s).stgFloor = s.stgFloor := rfl
@[simp] theorem latchChain_debBusy : (latchChain s).debBusy = s.debBusy := rfl
@[simp] theorem latchChain_debAcc : (latchChain s).debAcc = s.debAcc := rfl
@[simp] theorem latchChain_debLast : (latchChain s).debLast = s.debLast := rfl
@[simp] theorem latchChain_debLeft : (latchChain s).debLeft = s.debLeft := rfl
@[simp] theorem latchChain_debRel : (latchChain s).debRel = s.debRel := rfl
@[simp] theorem latchChain_rngState : (latchChain s).rngState = s.rngState := rfl
@[simp] theorem latchChain_rngOut : (latchChain s).rngOut = s.rngOut := rfl
@[simp] theorem latchChain_rngValid : (latchChain s).rngValid = s.rngValid := rfl
@[simp] theorem latchChain_errCode : (latchChain s).errCode = s.errCode := rfl
@[simp] theorem latchChain_busRdataQ : (latchChain s).busRdataQ = s.busRdataQ := rfl
@[simp] theorem latchChain_busErrQ : (latchChain s).busErrQ = s.busErrQ := rfl
@[simp] theorem latchChain_ports : (latchChain s).ports = s.ports := rfl
@[simp] theorem latchChain_frcTop : (latchChain s).frcTop = s.frcTop := rfl
@[simp] theorem latchChain_script : (latchChain s).script = s.script := rfl
@[simp] theorem latchChain_drawn : (latchChain s).drawn = s.drawn := rfl

@[simp] theorem debStart_teActive (timeout : Half) : (debStart timeout s).teActive = s.teActive := rfl
@[simp] theorem debStart_teHp (timeout : Half) : (debStart timeout s).teHp = s.teHp := rfl
@[simp] theorem debStart_tePhaseCnt (timeout : Half) : (debStart timeout s).tePhaseCnt = s.tePhaseCnt := rfl
@[simp] theorem debStart_teRemaining (timeout : Half) : (debStart timeout s).teRemaining = s.teRemaining := rfl
@[simp] theorem debStart_teCb (timeout : Half) : (debStart timeout s).teCb = s.teCb := rfl
@[simp] theorem debStart_teReload (timeout : Half) : (debStart timeout s).teReload = s.teReload := rfl
@[simp] theorem debStart_teStep (timeout : Half) : (debStart timeout s).teStep = s.teStep := rfl
@[simp] theorem debStart_teFloor (timeout : Half) : (debStart timeout s).teFloor = s.teFloor := rfl
@[simp] theorem debStart_audEn (timeout : Half) : (debStart timeout s).audEn = s.audEn := rfl
@[simp] theorem debStart_audPhase (timeout : Half) : (debStart timeout s).audPhase = s.audPhase := rfl
@[simp] theorem debStart_stgHp (timeout : Half) : (debStart timeout s).stgHp = s.stgHp := rfl
@[simp] theorem debStart_stgCnt (timeout : Half) : (debStart timeout s).stgCnt = s.stgCnt := rfl
@[simp] theorem debStart_stgStep (timeout : Half) : (debStart timeout s).stgStep = s.stgStep := rfl
@[simp] theorem debStart_stgFloor (timeout : Half) : (debStart timeout s).stgFloor = s.stgFloor := rfl
@[simp] theorem debStart_debBusy (timeout : Half) : (debStart timeout s).debBusy = (timeout != 0#16) := rfl
@[simp] theorem debStart_debAcc (timeout : Half) : (debStart timeout s).debAcc = 0#4 := rfl
@[simp] theorem debStart_debLast (timeout : Half) : (debStart timeout s).debLast = 0#4 := rfl
@[simp] theorem debStart_debLeft (timeout : Half) : (debStart timeout s).debLeft = timeout := rfl
@[simp] theorem debStart_debRel (timeout : Half) : (debStart timeout s).debRel = false := rfl
@[simp] theorem debStart_rngState (timeout : Half) : (debStart timeout s).rngState = s.rngState := rfl
@[simp] theorem debStart_rngOut (timeout : Half) : (debStart timeout s).rngOut = s.rngOut := rfl
@[simp] theorem debStart_rngValid (timeout : Half) : (debStart timeout s).rngValid = s.rngValid := rfl
@[simp] theorem debStart_errCode (timeout : Half) : (debStart timeout s).errCode = s.errCode := rfl
@[simp] theorem debStart_busRdataQ (timeout : Half) : (debStart timeout s).busRdataQ = s.busRdataQ := rfl
@[simp] theorem debStart_busErrQ (timeout : Half) : (debStart timeout s).busErrQ = s.busErrQ := rfl
@[simp] theorem debStart_ports (timeout : Half) : (debStart timeout s).ports = s.ports := rfl
@[simp] theorem debStart_frcTop (timeout : Half) : (debStart timeout s).frcTop = s.frcTop := rfl
@[simp] theorem debStart_script (timeout : Half) : (debStart timeout s).script = s.script := rfl
@[simp] theorem debStart_drawn (timeout : Half) : (debStart timeout s).drawn = s.drawn := rfl

@[simp] theorem rngDraw_teActive : (rngDraw s).teActive = s.teActive := rfl
@[simp] theorem rngDraw_teHp : (rngDraw s).teHp = s.teHp := rfl
@[simp] theorem rngDraw_tePhaseCnt : (rngDraw s).tePhaseCnt = s.tePhaseCnt := rfl
@[simp] theorem rngDraw_teRemaining : (rngDraw s).teRemaining = s.teRemaining := rfl
@[simp] theorem rngDraw_teCb : (rngDraw s).teCb = s.teCb := rfl
@[simp] theorem rngDraw_teReload : (rngDraw s).teReload = s.teReload := rfl
@[simp] theorem rngDraw_teStep : (rngDraw s).teStep = s.teStep := rfl
@[simp] theorem rngDraw_teFloor : (rngDraw s).teFloor = s.teFloor := rfl
@[simp] theorem rngDraw_audEn : (rngDraw s).audEn = s.audEn := rfl
@[simp] theorem rngDraw_audPhase : (rngDraw s).audPhase = s.audPhase := rfl
@[simp] theorem rngDraw_stgHp : (rngDraw s).stgHp = s.stgHp := rfl
@[simp] theorem rngDraw_stgCnt : (rngDraw s).stgCnt = s.stgCnt := rfl
@[simp] theorem rngDraw_stgStep : (rngDraw s).stgStep = s.stgStep := rfl
@[simp] theorem rngDraw_stgFloor : (rngDraw s).stgFloor = s.stgFloor := rfl
@[simp] theorem rngDraw_debBusy : (rngDraw s).debBusy = s.debBusy := rfl
@[simp] theorem rngDraw_debAcc : (rngDraw s).debAcc = s.debAcc := rfl
@[simp] theorem rngDraw_debLast : (rngDraw s).debLast = s.debLast := rfl
@[simp] theorem rngDraw_debLeft : (rngDraw s).debLeft = s.debLeft := rfl
@[simp] theorem rngDraw_debRel : (rngDraw s).debRel = s.debRel := rfl
@[simp] theorem rngDraw_rngState : (rngDraw s).rngState = lcg (s.rngState ^^^ frcIn s) := rfl
@[simp] theorem rngDraw_rngOut : (rngDraw s).rngOut = (lcg (s.rngState ^^^ frcIn s)).extractLsb' 24 2 := rfl
@[simp] theorem rngDraw_rngValid : (rngDraw s).rngValid = true := rfl
@[simp] theorem rngDraw_errCode : (rngDraw s).errCode = s.errCode := rfl
@[simp] theorem rngDraw_busRdataQ : (rngDraw s).busRdataQ = s.busRdataQ := rfl
@[simp] theorem rngDraw_busErrQ : (rngDraw s).busErrQ = s.busErrQ := rfl
@[simp] theorem rngDraw_ports : (rngDraw s).ports = s.ports := rfl
@[simp] theorem rngDraw_frcTop : (rngDraw s).frcTop = s.frcTop := rfl
@[simp] theorem rngDraw_script : (rngDraw s).script = s.script := rfl
@[simp] theorem rngDraw_drawn : (rngDraw s).drawn = s.drawn := rfl

end Sys2Proof.Machine
end

