-- ==== Sys2Proof/Laws/Ops.lean ====
section
/-! SUPPORT. For each shared operation, once, everything it can do; and what each leaves alone. Later proofs cite these
and do not unfold the operations. -/
namespace Sys2Proof.Machine

/-! ### The Tone Engine's steps -/

/-- What a completion can do (R171 to R173). -/
theorem complete_cases (s : State) :
    (complete s = doStop s ∧ (s.teCb = .stop ∨ ¬(s.teStep < s.teHp ∧ s.teFloor ≤ s.teHp - s.teStep))) ∨
    (complete s = arm (s.teHp - s.teStep) s.teReload .sweep s ∧ s.teCb = .sweep ∧ s.teStep < s.teHp ∧
      s.teFloor ≤ s.teHp - s.teStep) := by
  unfold complete stopAction sweepAction
  split
  · rename_i h
    exact .inl ⟨rfl, .inl h⟩
  · rename_i h
    split
    · rename_i h2
      exact .inr ⟨rfl, h, h2.1, h2.2⟩
    · rename_i h2
      exact .inl ⟨rfl, .inr h2⟩

/-- What a tick can do (R170 to R173): dropped, counted, a toggle, the end of a tone or chain, a chained tone. -/
theorem tickStep_cases (s : State) :
    (s.teActive = false ∧ tickStep s = s) ∨
    (s.teActive = true ∧ s.tePhaseCnt + 1#16 < s.teHp ∧
      tickStep s = { s with tePhaseCnt := s.tePhaseCnt + 1#16 }) ∨
    (s.teActive = true ∧ ¬ s.tePhaseCnt + 1#16 < s.teHp ∧ s.teRemaining - 1#16 ≠ 0#16 ∧
      tickStep s = { s with
        tePhaseCnt := 0#16, audPhase := !s.audPhase, teRemaining := s.teRemaining - 1#16 }) ∨
    (s.teActive = true ∧ ¬ s.tePhaseCnt + 1#16 < s.teHp ∧ s.teRemaining - 1#16 = 0#16 ∧
      (s.teCb = .stop ∨ ¬(s.teStep < s.teHp ∧ s.teFloor ≤ s.teHp - s.teStep)) ∧ tickStep s = doStop s) ∨
    (s.teActive = true ∧ ¬ s.tePhaseCnt + 1#16 < s.teHp ∧ s.teRemaining - 1#16 = 0#16 ∧ s.teCb = .sweep ∧
      s.teStep < s.teHp ∧ s.teFloor ≤ s.teHp - s.teStep ∧
      tickStep s = { s with
        teHp := s.teHp - s.teStep, teRemaining := s.teReload, tePhaseCnt := 0#16, audPhase := !s.audPhase,
        teActive := true, teCb := .sweep, audEn := true }) := by
  by_cases ha : s.teActive = true
  · by_cases hc : s.tePhaseCnt + 1#16 < s.teHp
    · exact .inr (.inl ⟨ha, hc, by simp [tickStep, ha, hc]⟩)
    · have hf : tickStep s = timerFires s := by simp [tickStep, ha, hc]
      by_cases hr : s.teRemaining - 1#16 = 0#16
      · simp only [timerFires, if_pos hr] at hf
        rw [hf]
        rcases complete_cases { s with
            tePhaseCnt := 0#16, audPhase := !s.audPhase, teRemaining := s.teRemaining - 1#16, teActive := false }
          with ⟨h, h1⟩ | ⟨h, h1, h2, h3⟩
        · exact .inr (.inr (.inr (.inl ⟨ha, hc, hr, h1, h⟩)))
        · exact .inr (.inr (.inr (.inr ⟨ha, hc, hr, h1, h2, h3, h⟩)))
      · exact .inr (.inr (.inl ⟨ha, hc, hr, by rw [hf]; simp [timerFires, hr]⟩))
  · exact .inl ⟨by simpa using ha, by simp [tickStep, ha]⟩

/-- A tick leaves everything but the engine alone (R58, R170): the staging, the wait, the generator, the error and bus
state and the model's own fields. -/
theorem tickStep_frame (s : State) : tickStep s = { s with
    teActive := (tickStep s).teActive, teHp := (tickStep s).teHp, tePhaseCnt := (tickStep s).tePhaseCnt,
    teRemaining := (tickStep s).teRemaining, teCb := (tickStep s).teCb, audEn := (tickStep s).audEn,
    audPhase := (tickStep s).audPhase } := by
  rcases tickStep_cases s with ⟨_, h⟩ | ⟨_, _, h⟩ | ⟨_, _, _, h⟩ | ⟨_, _, _, _, h⟩ | ⟨_, _, _, _, _, _, h⟩
  all_goals rw [h]
  rfl

@[simp] theorem tickStep_teReload (s : State) : (tickStep s).teReload = s.teReload := by rw [tickStep_frame]
@[simp] theorem tickStep_teStep (s : State) : (tickStep s).teStep = s.teStep := by rw [tickStep_frame]
@[simp] theorem tickStep_teFloor (s : State) : (tickStep s).teFloor = s.teFloor := by rw [tickStep_frame]
@[simp] theorem tickStep_stgHp (s : State) : (tickStep s).stgHp = s.stgHp := by rw [tickStep_frame]
@[simp] theorem tickStep_stgCnt (s : State) : (tickStep s).stgCnt = s.stgCnt := by rw [tickStep_frame]
@[simp] theorem tickStep_stgStep (s : State) : (tickStep s).stgStep = s.stgStep := by rw [tickStep_frame]
@[simp] theorem tickStep_stgFloor (s : State) : (tickStep s).stgFloor = s.stgFloor := by rw [tickStep_frame]
@[simp] theorem tickStep_debBusy (s : State) : (tickStep s).debBusy = s.debBusy := by rw [tickStep_frame]
@[simp] theorem tickStep_debAcc (s : State) : (tickStep s).debAcc = s.debAcc := by rw [tickStep_frame]
@[simp] theorem tickStep_debLast (s : State) : (tickStep s).debLast = s.debLast := by rw [tickStep_frame]
@[simp] theorem tickStep_debLeft (s : State) : (tickStep s).debLeft = s.debLeft := by rw [tickStep_frame]
@[simp] theorem tickStep_debRel (s : State) : (tickStep s).debRel = s.debRel := by rw [tickStep_frame]
@[simp] theorem tickStep_rngState (s : State) : (tickStep s).rngState = s.rngState := by rw [tickStep_frame]
@[simp] theorem tickStep_rngOut (s : State) : (tickStep s).rngOut = s.rngOut := by rw [tickStep_frame]
@[simp] theorem tickStep_rngValid (s : State) : (tickStep s).rngValid = s.rngValid := by rw [tickStep_frame]
@[simp] theorem tickStep_errCode (s : State) : (tickStep s).errCode = s.errCode := by rw [tickStep_frame]
@[simp] theorem tickStep_busRdataQ (s : State) : (tickStep s).busRdataQ = s.busRdataQ := by rw [tickStep_frame]
@[simp] theorem tickStep_busErrQ (s : State) : (tickStep s).busErrQ = s.busErrQ := by rw [tickStep_frame]
@[simp] theorem tickStep_ports (s : State) : (tickStep s).ports = s.ports := by rw [tickStep_frame]
@[simp] theorem tickStep_frcTop (s : State) : (tickStep s).frcTop = s.frcTop := by rw [tickStep_frame]
@[simp] theorem tickStep_script (s : State) : (tickStep s).script = s.script := by rw [tickStep_frame]
@[simp] theorem tickStep_drawn (s : State) : (tickStep s).drawn = s.drawn := by rw [tickStep_frame]

/-! ### The debouncer's step -/

/-- What a sample can do (R131): dropped, release, timeout, going on. -/
theorem sampleStep_cases (m : ButtonMask) (s : State) :
    (s.debBusy = false ∧ sampleStep m s = s) ∨
    (s.debBusy = true ∧ (s.debAcc ||| m ≠ 0#4 ∧ m = 0#4) ∧ sampleStep m s = { s with
      debAcc := s.debAcc ||| m, debLast := m, debLeft := s.debLeft - 1#16, debBusy := false, debRel := true }) ∨
    (s.debBusy = true ∧ ¬(s.debAcc ||| m ≠ 0#4 ∧ m = 0#4) ∧ s.debLeft - 1#16 = 0#16 ∧ sampleStep m s = { s with
      debAcc := s.debAcc ||| m, debLast := m, debLeft := s.debLeft - 1#16, debBusy := false, debRel := false }) ∨
    (s.debBusy = true ∧ ¬(s.debAcc ||| m ≠ 0#4 ∧ m = 0#4) ∧ s.debLeft - 1#16 ≠ 0#16 ∧ sampleStep m s = { s with
      debAcc := s.debAcc ||| m, debLast := m, debLeft := s.debLeft - 1#16 }) := by
  by_cases hb : s.debBusy = true
  · by_cases h1 : s.debAcc ||| m ≠ 0#4 ∧ m = 0#4
    · exact .inr (.inl ⟨hb, h1, by simp only [sampleStep, if_pos hb, if_pos h1]⟩)
    · by_cases h2 : s.debLeft - 1#16 = 0#16
      · exact .inr (.inr (.inl ⟨hb, h1, h2, by simp only [sampleStep, if_pos hb, if_neg h1, if_pos h2]⟩))
      · exact .inr (.inr (.inr ⟨hb, h1, h2, by simp only [sampleStep, if_pos hb, if_neg h1, if_neg h2]⟩))
  · exact .inl ⟨by simpa using hb, by simp [sampleStep, hb]⟩

/-- A sample leaves everything but the wait alone (R58, R131). -/
theorem sampleStep_frame (m : ButtonMask) (s : State) : sampleStep m s = { s with
    debBusy := (sampleStep m s).debBusy, debAcc := (sampleStep m s).debAcc, debLast := (sampleStep m s).debLast,
    debLeft := (sampleStep m s).debLeft, debRel := (sampleStep m s).debRel } := by
  rcases sampleStep_cases m s with ⟨_, h⟩ | ⟨_, _, h⟩ | ⟨_, _, _, h⟩ | ⟨_, _, _, h⟩ <;> rw [h]

@[simp] theorem sampleStep_teActive (m : ButtonMask) (s : State) : (sampleStep m s).teActive = s.teActive := by rw [sampleStep_frame]
@[simp] theorem sampleStep_teHp (m : ButtonMask) (s : State) : (sampleStep m s).teHp = s.teHp := by rw [sampleStep_frame]
@[simp] theorem sampleStep_tePhaseCnt (m : ButtonMask) (s : State) : (sampleStep m s).tePhaseCnt = s.tePhaseCnt := by rw [sampleStep_frame]
@[simp] theorem sampleStep_teRemaining (m : ButtonMask) (s : State) : (sampleStep m s).teRemaining = s.teRemaining := by rw [sampleStep_frame]
@[simp] theorem sampleStep_teCb (m : ButtonMask) (s : State) : (sampleStep m s).teCb = s.teCb := by rw [sampleStep_frame]
@[simp] theorem sampleStep_teReload (m : ButtonMask) (s : State) : (sampleStep m s).teReload = s.teReload := by rw [sampleStep_frame]
@[simp] theorem sampleStep_teStep (m : ButtonMask) (s : State) : (sampleStep m s).teStep = s.teStep := by rw [sampleStep_frame]
@[simp] theorem sampleStep_teFloor (m : ButtonMask) (s : State) : (sampleStep m s).teFloor = s.teFloor := by rw [sampleStep_frame]
@[simp] theorem sampleStep_audEn (m : ButtonMask) (s : State) : (sampleStep m s).audEn = s.audEn := by rw [sampleStep_frame]
@[simp] theorem sampleStep_audPhase (m : ButtonMask) (s : State) : (sampleStep m s).audPhase = s.audPhase := by rw [sampleStep_frame]
@[simp] theorem sampleStep_stgHp (m : ButtonMask) (s : State) : (sampleStep m s).stgHp = s.stgHp := by rw [sampleStep_frame]
@[simp] theorem sampleStep_stgCnt (m : ButtonMask) (s : State) : (sampleStep m s).stgCnt = s.stgCnt := by rw [sampleStep_frame]
@[simp] theorem sampleStep_stgStep (m : ButtonMask) (s : State) : (sampleStep m s).stgStep = s.stgStep := by rw [sampleStep_frame]
@[simp] theorem sampleStep_stgFloor (m : ButtonMask) (s : State) : (sampleStep m s).stgFloor = s.stgFloor := by rw [sampleStep_frame]
@[simp] theorem sampleStep_rngState (m : ButtonMask) (s : State) : (sampleStep m s).rngState = s.rngState := by rw [sampleStep_frame]
@[simp] theorem sampleStep_rngOut (m : ButtonMask) (s : State) : (sampleStep m s).rngOut = s.rngOut := by rw [sampleStep_frame]
@[simp] theorem sampleStep_rngValid (m : ButtonMask) (s : State) : (sampleStep m s).rngValid = s.rngValid := by rw [sampleStep_frame]
@[simp] theorem sampleStep_errCode (m : ButtonMask) (s : State) : (sampleStep m s).errCode = s.errCode := by rw [sampleStep_frame]
@[simp] theorem sampleStep_busRdataQ (m : ButtonMask) (s : State) : (sampleStep m s).busRdataQ = s.busRdataQ := by rw [sampleStep_frame]
@[simp] theorem sampleStep_busErrQ (m : ButtonMask) (s : State) : (sampleStep m s).busErrQ = s.busErrQ := by rw [sampleStep_frame]
@[simp] theorem sampleStep_ports (m : ButtonMask) (s : State) : (sampleStep m s).ports = s.ports := by rw [sampleStep_frame]
@[simp] theorem sampleStep_frcTop (m : ButtonMask) (s : State) : (sampleStep m s).frcTop = s.frcTop := by rw [sampleStep_frame]
@[simp] theorem sampleStep_script (m : ButtonMask) (s : State) : (sampleStep m s).script = s.script := by rw [sampleStep_frame]
@[simp] theorem sampleStep_drawn (m : ButtonMask) (s : State) : (sampleStep m s).drawn = s.drawn := by rw [sampleStep_frame]

/-! ### The transactions -/

/-- When TONE_START is accepted (R150). -/
theorem toneStartError_eq_none (cb : BitVec 2) (s : State) : toneStartError cb s = none ↔
    cbLegal cb = true ∧ s.teActive = false ∧ s.stgHp ≠ 0#16 ∧ s.stgCnt ≠ 0#16 ∧ (cb = 1#2 → s.stgStep ≠ 0#16) := by
  unfold toneStartError
  split_ifs with h1 h2 h3 h4
  · simp [h1]
  · simp [h2]
  · rcases h3 with h3 | h3 <;> simp [h3]
  · simp [h4]
  · simp_all

/-- What an instruction can do to a state, from its meaning's point of view (R110): reply to a read, take a bus error,
or perform a write. -/
theorem exec_cases (i : Instr) (s : State) :
    (∃ v, exec i s = .next (replyRead v s) ∧ i.isRead = true) ∨
    (∃ e, exec i s = .next (raiseBusError e s) ∧ i.isRead = false) ∨
    (∃ t, exec i s = .next (replyZero t) ∧ i.isRead = false ∧
      ((∃ v, i = .wrToneHp v ∧ t = { s with stgHp := v }) ∨ (∃ v, i = .wrToneCnt v ∧ t = { s with stgCnt := v }) ∨
       (∃ v, i = .wrSweepStep v ∧ t = { s with stgStep := v }) ∨
       (∃ v, i = .wrSweepFloor v ∧ t = { s with stgFloor := v }) ∨
       (∃ v, i = .wrRngState v ∧ t = { s with rngState := v }) ∨ (i = .nop ∧ t = s) ∨
       (∃ cb, i = .toneStart cb ∧ toneStartError cb s = none ∧ t = toneStart cb s) ∨
       (i = .toneStop ∧ t = doStop s) ∨
       (∃ n, i = .debStart n ∧ s.debBusy = false ∧ t = debStart n s) ∨ (i = .rngDraw ∧ t = rngDraw s) ∨
       (i = .clrErr ∧ t = clearErr s))) := by
  cases i with
  | toneStart cb =>
    cases h : toneStartError cb s with
    | some e => exact .inr (.inl ⟨e, by simp [exec, execToneStart, h], rfl⟩)
    | none => exact .inr (.inr ⟨toneStart cb s, by simp [exec, execToneStart, h], rfl, by simp [h]⟩)
  | debStart n =>
    cases h : s.debBusy with
    | true => exact .inr (.inl ⟨.debBusy, by simp [exec, execDebStart, h], rfl⟩)
    | false => exact .inr (.inr ⟨debStart n s, by simp [exec, execDebStart, h], rfl, by simp⟩)
  | wrToneHp v => exact .inr (.inr ⟨_, rfl, rfl, by simp⟩)
  | wrToneCnt v => exact .inr (.inr ⟨_, rfl, rfl, by simp⟩)
  | wrSweepStep v => exact .inr (.inr ⟨_, rfl, rfl, by simp⟩)
  | wrSweepFloor v => exact .inr (.inr ⟨_, rfl, rfl, by simp⟩)
  | wrRngState v => exact .inr (.inr ⟨_, rfl, rfl, by simp⟩)
  | nop => exact .inr (.inr ⟨_, rfl, rfl, by simp⟩)
  | toneStop => exact .inr (.inr ⟨_, rfl, rfl, by simp⟩)
  | rngDraw => exact .inr (.inr ⟨_, rfl, rfl, by simp⟩)
  | clrErr => exact .inr (.inr ⟨_, rfl, rfl, by simp⟩)
  | rdId => exact .inl ⟨_, rfl, rfl⟩
  | rdStatus => exact .inl ⟨_, rfl, rfl⟩
  | rdErr => exact .inl ⟨_, rfl, rfl⟩
  | rdToneHp => exact .inl ⟨_, rfl, rfl⟩
  | rdToneCnt => exact .inl ⟨_, rfl, rfl⟩
  | rdSweepStep => exact .inl ⟨_, rfl, rfl⟩
  | rdSweepFloor => exact .inl ⟨_, rfl, rfl⟩
  | rdTeHp => exact .inl ⟨_, rfl, rfl⟩
  | rdTeRemain => exact .inl ⟨_, rfl, rfl⟩
  | rdTeCtrl => exact .inl ⟨_, rfl, rfl⟩
  | rdTeReload => exact .inl ⟨_, rfl, rfl⟩
  | rdDebResult => exact .inl ⟨_, rfl, rfl⟩
  | rdDebLeft => exact .inl ⟨_, rfl, rfl⟩
  | rdRngState => exact .inl ⟨_, rfl, rfl⟩
  | rdRngOut => exact .inl ⟨_, rfl, rfl⟩

end Sys2Proof.Machine
end

