-- ==== Sys2Proof/Laws/Cycle.lean ====
section
/-! SUPPORT. What the parts of a cycle leave alone, and once what a step can do (00_scope.md R10). -/
namespace Sys2Proof.Machine

/-! ### Inputs -/

/-- The inputs come from the script's head or are a free value; nothing but the model's own fields changes (R14). -/
theorem takeInputs_frame (s : State) : takeInputs s = { s with
    ports := (takeInputs s).ports, script := s.script.tail, drawn := (takeInputs s).drawn } := by
  obtain ⟨⟩ := s
  rename_i script drawn
  cases script <;> rfl

theorem takeInputs_cons (s : State) (p : Ports) (rest : List Ports) :
    takeInputs { s with script := p :: rest } = { s with ports := p, script := rest } := rfl

/-! ### TickStep and SampleStep before HostStep -/

theorem tickPhase_frame (s : State) : tickPhase s = { s with
    teActive := (tickPhase s).teActive, teHp := (tickPhase s).teHp, tePhaseCnt := (tickPhase s).tePhaseCnt,
    teRemaining := (tickPhase s).teRemaining, teCb := (tickPhase s).teCb, audEn := (tickPhase s).audEn,
    audPhase := (tickPhase s).audPhase } := by
  unfold tickPhase
  split
  · exact tickStep_frame s
  · rfl

theorem samplePhase_frame (s : State) : samplePhase s = { s with
    debBusy := (samplePhase s).debBusy, debAcc := (samplePhase s).debAcc, debLast := (samplePhase s).debLast,
    debLeft := (samplePhase s).debLeft, debRel := (samplePhase s).debRel } := by
  unfold samplePhase
  split
  · exact sampleStep_frame _ s
  · rfl

@[simp] theorem takeInputs_teActive (s : State) : (takeInputs s).teActive = s.teActive := by rw [takeInputs_frame]
@[simp] theorem takeInputs_teHp (s : State) : (takeInputs s).teHp = s.teHp := by rw [takeInputs_frame]
@[simp] theorem takeInputs_tePhaseCnt (s : State) : (takeInputs s).tePhaseCnt = s.tePhaseCnt := by rw [takeInputs_frame]
@[simp] theorem takeInputs_teRemaining (s : State) : (takeInputs s).teRemaining = s.teRemaining := by rw [takeInputs_frame]
@[simp] theorem takeInputs_teCb (s : State) : (takeInputs s).teCb = s.teCb := by rw [takeInputs_frame]
@[simp] theorem takeInputs_teReload (s : State) : (takeInputs s).teReload = s.teReload := by rw [takeInputs_frame]
@[simp] theorem takeInputs_teStep (s : State) : (takeInputs s).teStep = s.teStep := by rw [takeInputs_frame]
@[simp] theorem takeInputs_teFloor (s : State) : (takeInputs s).teFloor = s.teFloor := by rw [takeInputs_frame]
@[simp] theorem takeInputs_audEn (s : State) : (takeInputs s).audEn = s.audEn := by rw [takeInputs_frame]
@[simp] theorem takeInputs_audPhase (s : State) : (takeInputs s).audPhase = s.audPhase := by rw [takeInputs_frame]
@[simp] theorem takeInputs_stgHp (s : State) : (takeInputs s).stgHp = s.stgHp := by rw [takeInputs_frame]
@[simp] theorem takeInputs_stgCnt (s : State) : (takeInputs s).stgCnt = s.stgCnt := by rw [takeInputs_frame]
@[simp] theorem takeInputs_stgStep (s : State) : (takeInputs s).stgStep = s.stgStep := by rw [takeInputs_frame]
@[simp] theorem takeInputs_stgFloor (s : State) : (takeInputs s).stgFloor = s.stgFloor := by rw [takeInputs_frame]
@[simp] theorem takeInputs_debBusy (s : State) : (takeInputs s).debBusy = s.debBusy := by rw [takeInputs_frame]
@[simp] theorem takeInputs_debAcc (s : State) : (takeInputs s).debAcc = s.debAcc := by rw [takeInputs_frame]
@[simp] theorem takeInputs_debLast (s : State) : (takeInputs s).debLast = s.debLast := by rw [takeInputs_frame]
@[simp] theorem takeInputs_debLeft (s : State) : (takeInputs s).debLeft = s.debLeft := by rw [takeInputs_frame]
@[simp] theorem takeInputs_debRel (s : State) : (takeInputs s).debRel = s.debRel := by rw [takeInputs_frame]
@[simp] theorem takeInputs_rngState (s : State) : (takeInputs s).rngState = s.rngState := by rw [takeInputs_frame]
@[simp] theorem takeInputs_rngOut (s : State) : (takeInputs s).rngOut = s.rngOut := by rw [takeInputs_frame]
@[simp] theorem takeInputs_rngValid (s : State) : (takeInputs s).rngValid = s.rngValid := by rw [takeInputs_frame]
@[simp] theorem takeInputs_errCode (s : State) : (takeInputs s).errCode = s.errCode := by rw [takeInputs_frame]
@[simp] theorem takeInputs_busRdataQ (s : State) : (takeInputs s).busRdataQ = s.busRdataQ := by rw [takeInputs_frame]
@[simp] theorem takeInputs_busErrQ (s : State) : (takeInputs s).busErrQ = s.busErrQ := by rw [takeInputs_frame]
@[simp] theorem takeInputs_frcTop (s : State) : (takeInputs s).frcTop = s.frcTop := by rw [takeInputs_frame]
@[simp] theorem takeInputs_script (s : State) : (takeInputs s).script = s.script.tail := by rw [takeInputs_frame]

@[simp] theorem tickPhase_teReload (s : State) : (tickPhase s).teReload = s.teReload := by rw [tickPhase_frame]
@[simp] theorem tickPhase_teStep (s : State) : (tickPhase s).teStep = s.teStep := by rw [tickPhase_frame]
@[simp] theorem tickPhase_teFloor (s : State) : (tickPhase s).teFloor = s.teFloor := by rw [tickPhase_frame]
@[simp] theorem tickPhase_stgHp (s : State) : (tickPhase s).stgHp = s.stgHp := by rw [tickPhase_frame]
@[simp] theorem tickPhase_stgCnt (s : State) : (tickPhase s).stgCnt = s.stgCnt := by rw [tickPhase_frame]
@[simp] theorem tickPhase_stgStep (s : State) : (tickPhase s).stgStep = s.stgStep := by rw [tickPhase_frame]
@[simp] theorem tickPhase_stgFloor (s : State) : (tickPhase s).stgFloor = s.stgFloor := by rw [tickPhase_frame]
@[simp] theorem tickPhase_debBusy (s : State) : (tickPhase s).debBusy = s.debBusy := by rw [tickPhase_frame]
@[simp] theorem tickPhase_debAcc (s : State) : (tickPhase s).debAcc = s.debAcc := by rw [tickPhase_frame]
@[simp] theorem tickPhase_debLast (s : State) : (tickPhase s).debLast = s.debLast := by rw [tickPhase_frame]
@[simp] theorem tickPhase_debLeft (s : State) : (tickPhase s).debLeft = s.debLeft := by rw [tickPhase_frame]
@[simp] theorem tickPhase_debRel (s : State) : (tickPhase s).debRel = s.debRel := by rw [tickPhase_frame]
@[simp] theorem tickPhase_rngState (s : State) : (tickPhase s).rngState = s.rngState := by rw [tickPhase_frame]
@[simp] theorem tickPhase_rngOut (s : State) : (tickPhase s).rngOut = s.rngOut := by rw [tickPhase_frame]
@[simp] theorem tickPhase_rngValid (s : State) : (tickPhase s).rngValid = s.rngValid := by rw [tickPhase_frame]
@[simp] theorem tickPhase_errCode (s : State) : (tickPhase s).errCode = s.errCode := by rw [tickPhase_frame]
@[simp] theorem tickPhase_busRdataQ (s : State) : (tickPhase s).busRdataQ = s.busRdataQ := by rw [tickPhase_frame]
@[simp] theorem tickPhase_busErrQ (s : State) : (tickPhase s).busErrQ = s.busErrQ := by rw [tickPhase_frame]
@[simp] theorem tickPhase_ports (s : State) : (tickPhase s).ports = s.ports := by rw [tickPhase_frame]
@[simp] theorem tickPhase_frcTop (s : State) : (tickPhase s).frcTop = s.frcTop := by rw [tickPhase_frame]
@[simp] theorem tickPhase_script (s : State) : (tickPhase s).script = s.script := by rw [tickPhase_frame]
@[simp] theorem tickPhase_drawn (s : State) : (tickPhase s).drawn = s.drawn := by rw [tickPhase_frame]

@[simp] theorem samplePhase_teActive (s : State) : (samplePhase s).teActive = s.teActive := by rw [samplePhase_frame]
@[simp] theorem samplePhase_teHp (s : State) : (samplePhase s).teHp = s.teHp := by rw [samplePhase_frame]
@[simp] theorem samplePhase_tePhaseCnt (s : State) : (samplePhase s).tePhaseCnt = s.tePhaseCnt := by rw [samplePhase_frame]
@[simp] theorem samplePhase_teRemaining (s : State) : (samplePhase s).teRemaining = s.teRemaining := by rw [samplePhase_frame]
@[simp] theorem samplePhase_teCb (s : State) : (samplePhase s).teCb = s.teCb := by rw [samplePhase_frame]
@[simp] theorem samplePhase_teReload (s : State) : (samplePhase s).teReload = s.teReload := by rw [samplePhase_frame]
@[simp] theorem samplePhase_teStep (s : State) : (samplePhase s).teStep = s.teStep := by rw [samplePhase_frame]
@[simp] theorem samplePhase_teFloor (s : State) : (samplePhase s).teFloor = s.teFloor := by rw [samplePhase_frame]
@[simp] theorem samplePhase_audEn (s : State) : (samplePhase s).audEn = s.audEn := by rw [samplePhase_frame]
@[simp] theorem samplePhase_audPhase (s : State) : (samplePhase s).audPhase = s.audPhase := by rw [samplePhase_frame]
@[simp] theorem samplePhase_stgHp (s : State) : (samplePhase s).stgHp = s.stgHp := by rw [samplePhase_frame]
@[simp] theorem samplePhase_stgCnt (s : State) : (samplePhase s).stgCnt = s.stgCnt := by rw [samplePhase_frame]
@[simp] theorem samplePhase_stgStep (s : State) : (samplePhase s).stgStep = s.stgStep := by rw [samplePhase_frame]
@[simp] theorem samplePhase_stgFloor (s : State) : (samplePhase s).stgFloor = s.stgFloor := by rw [samplePhase_frame]
@[simp] theorem samplePhase_rngState (s : State) : (samplePhase s).rngState = s.rngState := by rw [samplePhase_frame]
@[simp] theorem samplePhase_rngOut (s : State) : (samplePhase s).rngOut = s.rngOut := by rw [samplePhase_frame]
@[simp] theorem samplePhase_rngValid (s : State) : (samplePhase s).rngValid = s.rngValid := by rw [samplePhase_frame]
@[simp] theorem samplePhase_errCode (s : State) : (samplePhase s).errCode = s.errCode := by rw [samplePhase_frame]
@[simp] theorem samplePhase_busRdataQ (s : State) : (samplePhase s).busRdataQ = s.busRdataQ := by rw [samplePhase_frame]
@[simp] theorem samplePhase_busErrQ (s : State) : (samplePhase s).busErrQ = s.busErrQ := by rw [samplePhase_frame]
@[simp] theorem samplePhase_ports (s : State) : (samplePhase s).ports = s.ports := by rw [samplePhase_frame]
@[simp] theorem samplePhase_frcTop (s : State) : (samplePhase s).frcTop = s.frcTop := by rw [samplePhase_frame]
@[simp] theorem samplePhase_script (s : State) : (samplePhase s).script = s.script := by rw [samplePhase_frame]
@[simp] theorem samplePhase_drawn (s : State) : (samplePhase s).drawn = s.drawn := by rw [samplePhase_frame]

/-! What stands before HostStep: the inputs on the ports; of the rest only the engine (by the tick) and the wait (by the
sample) can have changed. -/

@[simp] theorem beforeHost_teActive (s : State) : (beforeHost s).teActive = (tickPhase (takeInputs s)).teActive := by simp [beforeHost]
@[simp] theorem beforeHost_teHp (s : State) : (beforeHost s).teHp = (tickPhase (takeInputs s)).teHp := by simp [beforeHost]
@[simp] theorem beforeHost_tePhaseCnt (s : State) : (beforeHost s).tePhaseCnt = (tickPhase (takeInputs s)).tePhaseCnt := by simp [beforeHost]
@[simp] theorem beforeHost_teRemaining (s : State) : (beforeHost s).teRemaining = (tickPhase (takeInputs s)).teRemaining := by simp [beforeHost]
@[simp] theorem beforeHost_teCb (s : State) : (beforeHost s).teCb = (tickPhase (takeInputs s)).teCb := by simp [beforeHost]
@[simp] theorem beforeHost_teReload (s : State) : (beforeHost s).teReload = s.teReload := by simp [beforeHost]
@[simp] theorem beforeHost_teStep (s : State) : (beforeHost s).teStep = s.teStep := by simp [beforeHost]
@[simp] theorem beforeHost_teFloor (s : State) : (beforeHost s).teFloor = s.teFloor := by simp [beforeHost]
@[simp] theorem beforeHost_audEn (s : State) : (beforeHost s).audEn = (tickPhase (takeInputs s)).audEn := by simp [beforeHost]
@[simp] theorem beforeHost_audPhase (s : State) : (beforeHost s).audPhase = (tickPhase (takeInputs s)).audPhase := by simp [beforeHost]
@[simp] theorem beforeHost_stgHp (s : State) : (beforeHost s).stgHp = s.stgHp := by simp [beforeHost]
@[simp] theorem beforeHost_stgCnt (s : State) : (beforeHost s).stgCnt = s.stgCnt := by simp [beforeHost]
@[simp] theorem beforeHost_stgStep (s : State) : (beforeHost s).stgStep = s.stgStep := by simp [beforeHost]
@[simp] theorem beforeHost_stgFloor (s : State) : (beforeHost s).stgFloor = s.stgFloor := by simp [beforeHost]
@[simp] theorem beforeHost_rngState (s : State) : (beforeHost s).rngState = s.rngState := by simp [beforeHost]
@[simp] theorem beforeHost_rngOut (s : State) : (beforeHost s).rngOut = s.rngOut := by simp [beforeHost]
@[simp] theorem beforeHost_rngValid (s : State) : (beforeHost s).rngValid = s.rngValid := by simp [beforeHost]
@[simp] theorem beforeHost_errCode (s : State) : (beforeHost s).errCode = s.errCode := by simp [beforeHost]
@[simp] theorem beforeHost_busRdataQ (s : State) : (beforeHost s).busRdataQ = s.busRdataQ := by simp [beforeHost]
@[simp] theorem beforeHost_busErrQ (s : State) : (beforeHost s).busErrQ = s.busErrQ := by simp [beforeHost]
@[simp] theorem beforeHost_ports (s : State) : (beforeHost s).ports = (takeInputs s).ports := by simp [beforeHost]
@[simp] theorem beforeHost_frcTop (s : State) : (beforeHost s).frcTop = s.frcTop := by simp [beforeHost]
@[simp] theorem beforeHost_script (s : State) : (beforeHost s).script = s.script.tail := by simp [beforeHost]
@[simp] theorem beforeHost_drawn (s : State) : (beforeHost s).drawn = (takeInputs s).drawn := by simp [beforeHost]

/-! ### The step -/

/-- Everything a step can do: reset, no transaction, a word that is no row, an instruction. -/
theorem step_cases (s : State) :
    ((takeInputs s).ports.rst = true ∧ step s = .next (resetStep (takeInputs s))) ∨
    ((takeInputs s).ports.rst = false ∧ (takeInputs s).ports.busValid = false ∧
      presented (takeInputs s).ports = none ∧ step s = .next (replyZero (beforeHost s))) ∨
    ((takeInputs s).ports.rst = false ∧ (takeInputs s).ports.busValid = true ∧
      ∃ e, decode (portsTw (takeInputs s).ports) = .error e ∧ presented (takeInputs s).ports = none ∧
        step s = .next (raiseBusError e (beforeHost s))) ∨
    ((takeInputs s).ports.rst = false ∧ (takeInputs s).ports.busValid = true ∧
      ∃ i, decode (portsTw (takeInputs s).ports) = .instr i ∧ presented (takeInputs s).ports = some i ∧
        step s = exec i (beforeHost s)) := by
  cases hr : (takeInputs s).ports.rst with
  | true => exact .inl ⟨rfl, by simp [step, cycle, hr]⟩
  | false =>
    have hs : step s = hostPhase (beforeHost s) := by simp [step, cycle, hr, beforeHost]
    cases hv : (takeInputs s).ports.busValid with
    | false => exact .inr (.inl ⟨rfl, rfl, by simp [presented, hv], by simp [hs, hostPhase, hv]⟩)
    | true =>
      cases hd : decode (portsTw (takeInputs s).ports) with
      | error e =>
        exact .inr (.inr (.inl ⟨rfl, rfl, e, rfl, by simp [presented, hv, hd],
          by simp [hs, hostPhase, hostStep, hv, hd]⟩))
      | instr i =>
        exact .inr (.inr (.inr ⟨rfl, rfl, i, rfl, by simp [presented, hv, hd],
          by simp [hs, hostPhase, hostStep, hv, hd]⟩))

end Sys2Proof.Machine
end

