-- ==== Sys2Proof/Laws/Decode.lean ====
section
/-! SUPPORT. The bits and fields of a transaction word built from its parts, and of a command word (30_encoding.md R80,
R82), and what the decoder answers for a word given by its fields. -/
namespace Sys2Proof

/-- The bits of `we :: addr :: data` (R80). -/
theorem getLsbD_twParts (we : BitVec 1) (addr : Offset) (data : Word) (k : Nat) :
    BitVec.getLsbD (w := 41) (we ++ addr ++ data) k =
      if k < 32 then data.getLsbD k else if k - 32 < 8 then addr.getLsbD (k - 32) else we.getLsbD (k - 32 - 8) := by
  change BitVec.getLsbD (w := 1 + 8 + 32) (we ++ addr ++ data) k = _
  rw [BitVec.getLsbD_append, BitVec.getLsbD_append]

/-- The bits of `op :: payload` (R82). -/
theorem getLsbD_cmdParts (op : BitVec 4) (pl : BitVec 28) (k : Nat) :
    BitVec.getLsbD (w := 32) (op ++ pl) k = if k < 28 then pl.getLsbD k else op.getLsbD (k - 28) := by
  change BitVec.getLsbD (w := 4 + 28) (op ++ pl) k = _
  rw [BitVec.getLsbD_append]

/-- The bits of a 16-bit value zero-extended to a register (R88). -/
theorem getLsbD_zeroHalf (v : Half) (k : Nat) : BitVec.getLsbD (w := 32) (0#16 ++ v) k = v.getLsbD k := by
  change BitVec.getLsbD (w := 16 + 16) (0#16 ++ v) k = _
  rw [BitVec.getLsbD_append]
  split
  · rfl
  · rename_i h
    simp [BitVec.getLsbD_of_ge v k (by omega)]

/-- A register view written as a concatenation is the zero extension (R8). -/
theorem zeroHalf_eq_setWidth (v : Half) : (0#16 ++ v : Word) = v.setWidth 32 := by
  apply BitVec.eq_of_getLsbD_eq
  intro k hk
  rw [getLsbD_zeroHalf]
  simp [hk]

/-- No bus error has code 0, the code of no error (R211). -/
@[simp] theorem BusError.code_ne_zero (e : BusError) : e.code ≠ 0#4 := by
  cases e <;> decide

@[simp] theorem twAddr_append (we : BitVec 1) (addr : Offset) (data : Word) : twAddr (we ++ addr ++ data) = addr := by
  apply BitVec.eq_of_getLsbD_eq
  intro k hk
  simp [twAddr, getLsbD_twParts, hk]

@[simp] theorem twData_append (we : BitVec 1) (addr : Offset) (data : Word) : twData (we ++ addr ++ data) = data := by
  apply BitVec.eq_of_getLsbD_eq
  intro k hk
  simp [twData, getLsbD_twParts, hk]

@[simp] theorem twWe_append (we : BitVec 1) (addr : Offset) (data : Word) :
    twWe (we ++ addr ++ data) = we.getLsbD 0 := by
  unfold twWe
  rw [getLsbD_twParts]
  simp

/-- Every transaction word is its three fields (R80). -/
theorem tw_eq_parts (tw : Tw) : tw = BitVec.ofBool (twWe tw) ++ twAddr tw ++ twData tw := by
  apply BitVec.eq_of_getLsbD_eq
  intro k hk
  rw [getLsbD_twParts]
  split
  · rename_i h
    simp [twData, h]
  · split
    · rename_i h1 h2
      simp [twAddr, h2, show 32 + (k - 32) = k by omega]
    · rename_i h1 h2
      have : k = 40 := by omega
      subst this
      simp [twWe]

@[simp] theorem cmdOp_append (op : BitVec 4) (pl : BitVec 28) : cmdOp (op ++ pl) = op := by
  apply BitVec.eq_of_getLsbD_eq
  intro k hk
  simp [cmdOp, getLsbD_cmdParts, hk]

@[simp] theorem cmdPayload_append (op : BitVec 4) (pl : BitVec 28) : cmdPayload (op ++ pl) = pl := by
  apply BitVec.eq_of_getLsbD_eq
  intro k hk
  simp [cmdPayload, getLsbD_cmdParts, hk]

@[simp] theorem high_zeroHalf (v : Half) : BitVec.extractLsb' (n := 32) 16 16 (0#16 ++ v) = 0#16 := by
  apply BitVec.eq_of_getLsbD_eq
  intro k hk
  simp [getLsbD_zeroHalf]

@[simp] theorem low_zeroHalf (v : Half) : BitVec.extractLsb' (n := 32) 0 16 (0#16 ++ v) = v := by
  apply BitVec.eq_of_getLsbD_eq
  intro k hk
  simp [getLsbD_zeroHalf, hk]

/-- A word given by its fields goes to the part of the decoder its fields select. -/
theorem decode_append (we : BitVec 1) (addr : Offset) (data : Word) (h1 : addr.extractLsb' 0 2 = 0#2)
    (h2 : ¬ 0x40#8 ≤ addr) : decode (we ++ addr ++ data) =
      if we.getLsbD 0 then decodeWrite addr data else decodeRead addr := by
  simp [decode, h1, h2]

end Sys2Proof
end

