-- ==== Sys2Proof/Laws/HostProgram.lean ====
section
/-! SUPPORT. The cycles of a host program, and its run as so many steps of the machine (30_encoding.md R101,
70_reset_and_hazards.md R258). -/
namespace Sys2Proof.Machine

/-! ### Cycles -/

@[simp] theorem assemble_nil (frc : Word) : assemble frc [] = [] := rfl

@[simp] theorem assemble_cons (frc : Word) (l : Line) (rest : List Line) :
    assemble frc (l :: rest) = lineCycles frc l ++ assemble (frcAfter frc l) rest := rfl

/-- A program in two parts: the second starts on the `frc` the first left. -/
theorem assemble_append (frc : Word) (a b : List Line) :
    assemble frc (a ++ b) = assemble frc a ++ assemble (a.foldl frcAfter frc) b := by
  induction a generalizing frc with
  | nil => rfl
  | cons l rest ih => simp [ih]

/-- Every line's cycles have the `frc` that held before it (R101). -/
theorem lineCycles_frc (frc : Word) (l : Line) (p : Ports) (hp : p ∈ lineCycles frc l) : p.frc = frc := by
  cases l with
  | bus st t => cases st <;> simp_all [lineCycles, withStrobe]
  | _ => simp_all [lineCycles, withStrobe]

/-- The closing cycle of a run is idle but for the last value of `frc` (R101, R258). -/
theorem loadProgram_script (frc : Word) (prog : List Line) (s : State) :
    (loadProgram frc prog s).script =
      assemble frc prog ++ [{ Ports.idle with frc := prog.foldl frcAfter frc }] := by
  simp [loadProgram, assemble_append, lineCycles]

/-! ### Runs -/

@[simp] theorem onNext_next {α β : Type} (a : α) (f : α → Host.Outcome β Fault Refusal) :
    onNext (.next a) f = f a := rfl

theorem onNext_assoc {α β γ : Type} (o : Host.Outcome α Fault Refusal) (f : α → Host.Outcome β Fault Refusal)
    (g : β → Host.Outcome γ Fault Refusal) : onNext (onNext o f) g = onNext o fun a => onNext (f a) g := by
  cases o <;> rfl

@[simp] theorem onNext_pure {α : Type} (o : Host.Outcome α Fault Refusal) : onNext o .next = o := by cases o <;> rfl

@[simp] theorem runSteps_zero (s : State) : runSteps 0 s = .next s := rfl

theorem runSteps_succ (n : Nat) (s : State) : runSteps (n + 1) s = onNext (step s) (runSteps n) := by
  simp only [runSteps, Host.Core.run, core]
  cases step s <;> rfl

/-- A run in two parts. -/
theorem runSteps_add (m n : Nat) (s : State) : runSteps (m + n) s = onNext (runSteps m s) (runSteps n) := by
  induction m generalizing s with
  | zero => simp
  | succ m ih =>
    rw [Nat.add_right_comm, runSteps_succ, runSteps_succ, onNext_assoc]
    congr 1
    funext t
    exact ih t

/-- The state a run of lines ends in is that of so many steps of the machine. -/
theorem runLines_final (frc : Word) (prog : List Line) (s : State) :
    onNext (runLines frc prog s) (fun o => .next o.final) = runSteps (assemble frc prog).length s := by
  induction prog generalizing frc s with
  | nil => rfl
  | cons l rest ih =>
    rw [assemble_cons, List.length_append, runSteps_add, runLines, onNext_assoc]
    congr 1
    funext t
    rw [onNext_assoc, ← ih]
    rfl

/-- One reply is seen after each line (R258). -/
theorem runLines_replies (frc : Word) (prog : List Line) (s : State) (o : Observation)
    (h : runLines frc prog s = .next o) : o.replies.length = prog.length := by
  induction prog generalizing frc s o with
  | nil => cases h; rfl
  | cons l rest ih =>
    rw [runLines] at h
    cases h1 : runSteps (lineCycles frc l).length s with
    | next t =>
      rw [h1, onNext_next] at h
      cases h2 : runLines (frcAfter frc l) rest t with
      | next o' => rw [h2, onNext_next] at h; cases h; simp [ih _ _ _ h2]
      | fault r => rw [h2] at h; cases h
      | refused r => rw [h2] at h; cases h
    | fault r => rw [h1] at h; cases h
    | refused r => rw [h1] at h; cases h

/-- The end of an observed run is the state after every cycle of the program and one more (R258). -/
theorem observe_final (frc : Word) (prog : List Line) (s : State) :
    onNext (observe frc prog s) (fun o => .next o.final) =
      onNext (runSteps (loadProgram frc prog s).script.length (loadProgram frc prog s))
        (fun t => .next (sectionThree t)) := by
  rw [loadProgram_script, List.length_append, runSteps_add, ← runLines_final]
  simp only [observe, onNext_assoc, onNext_next]
  rfl

end Sys2Proof.Machine
end

