-- ==== Sys2Proof/Laws/PerInstr.lean ====
section
/-! SUPPORT. Facts about every instruction as syntax, one lemma per constructor. RowMatch: the encoder's word lies in the
instruction's row of spec/opcode_table.json (30_encoding.md R81). -/
namespace Sys2Proof.Laws.RowMatch

/-- The encoded word of a well-formed instruction has the row's match bits under the row's mask. -/
def Statement (i : Instr) : Prop := i.WellFormed → encode i &&& rowMask i = rowMatch i

/-- Two words that agree wherever the mask is set are equal under it. -/
theorem and_eq_and (a b m : Tw) (h : ∀ k : Fin 41, m.getLsbD k = true → a.getLsbD k = b.getLsbD k) :
    a &&& m = b &&& m := by
  apply BitVec.eq_of_getLsbD_eq
  intro k hk
  rw [BitVec.getLsbD_and, BitVec.getLsbD_and]
  cases hm : m.getLsbD k
  · simp
  · simp [h ⟨k, hk⟩ hm]

/-- The mask of the rows with a 16-bit operand keeps no bit below 16. -/
theorem halfMask_low : ∀ k : Fin 41, BitVec.getLsbD (w := 41) 0x1FFFFFF0000 k = true → 16 ≤ k.val := by decide

/-- The mask of the rows that use WE and ADDR alone keeps no bit below 32. -/
theorem addrMask_low : ∀ k : Fin 41, BitVec.getLsbD (w := 41) 0x1FF00000000 k = true → 32 ≤ k.val := by decide

/-- A staging write, under its row's mask, is the write of 0. -/
theorem staging (addr : Offset) (v : Half) :
    writeWord addr (0#16 ++ v) &&& 0x1FFFFFF0000 = writeWord addr 0#32 &&& 0x1FFFFFF0000 := by
  apply and_eq_and
  intro k hk
  have h16 := halfMask_low k hk
  unfold writeWord
  rw [getLsbD_twParts, getLsbD_twParts, getLsbD_zeroHalf, BitVec.getLsbD_of_ge v k h16]
  simp

/-- A write of a whole word, under its row's mask, is the write of 0. -/
theorem wholeWord (addr : Offset) (v : Word) :
    writeWord addr v &&& 0x1FF00000000 = writeWord addr 0#32 &&& 0x1FF00000000 := by
  apply and_eq_and
  intro k hk
  have h32 := addrMask_low k hk
  unfold writeWord
  rw [getLsbD_twParts, getLsbD_twParts]
  simp [show ¬ k.val < 32 by omega]

/-- DEB_START, under its row's mask, is DEB_START with TIMEOUT 0. -/
theorem timeoutWord (v : Half) :
    cmdWord 0x3 (0#12 ++ v) &&& 0x1FFFFFF0000 = cmdWord 0x3 0#28 &&& 0x1FFFFFF0000 := by
  apply and_eq_and
  intro k hk
  have h16 := halfMask_low k hk
  have hv : BitVec.getLsbD (w := 28) (0#12 ++ v) k = false := by
    change BitVec.getLsbD (w := 12 + 16) (0#12 ++ v) k = false
    rw [BitVec.getLsbD_append, if_neg (by omega)]
    simp
  unfold cmdWord writeWord
  rw [getLsbD_twParts, getLsbD_twParts, getLsbD_cmdParts, getLsbD_cmdParts, hv]
  simp

theorem rdId : Statement .rdId := by
  intro _
  decide

theorem rdStatus : Statement .rdStatus := by
  intro _
  decide

theorem rdErr : Statement .rdErr := by
  intro _
  decide

theorem rdToneHp : Statement .rdToneHp := by
  intro _
  decide

theorem rdToneCnt : Statement .rdToneCnt := by
  intro _
  decide

theorem rdSweepStep : Statement .rdSweepStep := by
  intro _
  decide

theorem rdSweepFloor : Statement .rdSweepFloor := by
  intro _
  decide

theorem rdTeHp : Statement .rdTeHp := by
  intro _
  decide

theorem rdTeRemain : Statement .rdTeRemain := by
  intro _
  decide

theorem rdTeCtrl : Statement .rdTeCtrl := by
  intro _
  decide

theorem rdTeReload : Statement .rdTeReload := by
  intro _
  decide

theorem rdDebResult : Statement .rdDebResult := by
  intro _
  decide

theorem rdDebLeft : Statement .rdDebLeft := by
  intro _
  decide

theorem rdRngState : Statement .rdRngState := by
  intro _
  decide

theorem rdRngOut : Statement .rdRngOut := by
  intro _
  decide

theorem wrToneHp (hp : Half) : Statement (.wrToneHp hp) :=
  fun _ => (staging _ hp).trans
    (by decide : writeWord 0x10 0#32 &&& 0x1FFFFFF0000 = 0x11000000000)

theorem wrToneCnt (cnt : Half) : Statement (.wrToneCnt cnt) :=
  fun _ => (staging _ cnt).trans
    (by decide : writeWord 0x14 0#32 &&& 0x1FFFFFF0000 = 0x11400000000)

theorem wrSweepStep (step : Half) : Statement (.wrSweepStep step) :=
  fun _ => (staging _ step).trans
    (by decide : writeWord 0x18 0#32 &&& 0x1FFFFFF0000 = 0x11800000000)

theorem wrSweepFloor (floor : Half) : Statement (.wrSweepFloor floor) :=
  fun _ => (staging _ floor).trans
    (by decide : writeWord 0x1C 0#32 &&& 0x1FFFFFF0000 = 0x11C00000000)

theorem wrRngState (seed : Word) : Statement (.wrRngState seed) :=
  fun _ => (wholeWord _ seed).trans
    (by decide : writeWord 0x38 0#32 &&& 0x1FF00000000 = 0x13800000000)

theorem nop : Statement .nop := by
  intro _
  decide

theorem toneStart (cb : BitVec 2) : Statement (.toneStart cb) := by
  unfold Statement
  revert cb
  decide

theorem toneStop : Statement .toneStop := by
  intro _
  decide

theorem debStart (timeout : Half) : Statement (.debStart timeout) :=
  fun _ => (timeoutWord timeout).trans
    (by decide : cmdWord 0x3 0#28 &&& 0x1FFFFFF0000 = 0x10430000000)

theorem rngDraw : Statement .rngDraw := by
  intro _
  decide

theorem clrErr : Statement .clrErr := by
  intro _
  decide

end Sys2Proof.Laws.RowMatch
end

