-- ==== Sys2Proof/Tests/Slice0.lean ====
section
/-! SUPPORT. The model's own tests. Every expected value is one of spec/95_test_vectors.md (cited V-...), of a rule's
Example, or of the encoding tables (R89, R100). After them, for each statement with hypotheses, states and operands that
meet them, at the boundary values where a statement has several clauses. -/
namespace Sys2Proof.Tests

open Sys2Proof Sys2Proof.Machine

/-! ### Helpers -/

/-- The state an outcome gives. -/
def stateOf : Host.Outcome State Fault Refusal → State
  | .next t => t
  | .fault r => nomatch r
  | .refused _ => State.reset

/-- The state after one cycle that presents the transaction word. -/
def afterWord (s : State) (w : Nat) : State := stateOf (step (s.withFetchWord 48 w))

/-- The state after one cycle on these ports. -/
def afterPorts (s : State) (p : Ports) : State := stateOf (step { s with script := [p] })

/-- The engine just started on the tone of R150's example: half-period 3, count 4, STOP. -/
def toneState : State :=
  { State.reset with
    teActive := true, teHp := 3, teRemaining := 4, teReload := 4, audEn := true, stgHp := 3, stgCnt := 4 }

/-- A SWEEP tone in the tick before its last toggle (program P2 at tick 9): half-period 5, step 2, floor 1. -/
def sweepState : State :=
  { State.reset with
    teActive := true, teHp := 5, tePhaseCnt := 4, teRemaining := 1, teCb := .sweep, teReload := 2, teStep := 2,
    teFloor := 1, audEn := true, audPhase := true, stgHp := 5, stgCnt := 2, stgStep := 2, stgFloor := 1 }

/-- A wait with a budget of 2 samples, none taken (V-D10). -/
def waitState : State := { State.reset with debBusy := true, debLeft := 2 }

/-- A state with the staging registers of program P2 and the engine Idle. -/
def stagedState : State := { State.reset with stgHp := 5, stgCnt := 2, stgStep := 2, stgFloor := 1 }

/-- The ports of a cycle that presents the word and nothing else. -/
def wordPorts (w : Tw) : Ports := presentWord w

/-! ### Well-formedness -/

/-- R85: CB 2 and 3 are reserved. -/
theorem test_wf_reserved_cb :
    Instr.wf (.toneStart 2) = false ∧ Instr.wf (.toneStart 3) = false ∧ Instr.wf (.toneStart 0) = true ∧
      Instr.wf (.toneStart 1) = true := by decide

/-! ### Decoding: words written out from the tables of R53, R83, R89 and R100 -/

theorem test_decode_general :
    decode 0x00000000000 = .instr .rdId ∧ decode 0x00800000000 = .instr .rdStatus ∧
    decode 0x00C00000000 = .instr .rdErr ∧ decode 0x10400000000 = .instr .nop ∧
    decode 0x104F0000000 = .instr .clrErr := by decide

theorem test_decode_tone_reads :
    decode 0x01000000000 = .instr .rdToneHp ∧ decode 0x01400000000 = .instr .rdToneCnt ∧
    decode 0x01800000000 = .instr .rdSweepStep ∧ decode 0x01C00000000 = .instr .rdSweepFloor ∧
    decode 0x02000000000 = .instr .rdTeHp ∧ decode 0x02400000000 = .instr .rdTeRemain ∧
    decode 0x02800000000 = .instr .rdTeCtrl ∧ decode 0x02C00000000 = .instr .rdTeReload := by decide

theorem test_decode_tone_writes :
    decode 0x11000000005 = .instr (.wrToneHp 5) ∧ decode 0x11400000002 = .instr (.wrToneCnt 2) ∧
    decode 0x11800000002 = .instr (.wrSweepStep 2) ∧ decode 0x11C00000001 = .instr (.wrSweepFloor 1) ∧
    decode 0x1100000FFFF = .instr (.wrToneHp 0xFFFF) := by decide

theorem test_decode_tone_commands :
    decode 0x10410000000 = .instr (.toneStart 0) ∧ decode 0x10410000001 = .instr (.toneStart 1) ∧
    decode 0x10420000000 = .instr .toneStop := by decide

theorem test_decode_debouncer :
    decode 0x03000000000 = .instr .rdDebResult ∧ decode 0x03400000000 = .instr .rdDebLeft ∧
    decode 0x10430000258 = .instr (.debStart 600) := by decide

theorem test_decode_rng :
    decode 0x03800000000 = .instr .rdRngState ∧ decode 0x03C00000000 = .instr .rdRngOut ∧
    decode 0x13812345678 = .instr (.wrRngState 0x12345678) ∧ decode 0x10440000000 = .instr .rngDraw := by decide

/-- V-B4 to V-B9: ALIGN before BAD_ADDR. -/
theorem test_decode_bad_addresses :
    decode 0x04100000000 = .error .align ∧ decode 0x14100000000 = .error .align ∧
    decode 0x00E00000000 = .error .align ∧ decode 0x14000000000 = .error .badAddr ∧
    decode 0x0FC00000000 = .error .badAddr ∧ decode 0x144F0000000 = .error .badAddr := by decide

/-- V-B10 to V-B15. -/
theorem test_decode_directions :
    decode 0x10000000000 = .error .roWrite ∧ decode 0x10800000000 = .error .roWrite ∧
    decode 0x13C00000000 = .error .roWrite ∧ decode 0x12000010000 = .error .roWrite ∧
    decode 0x00400000000 = .error .woRead ∧ decode 0x11000010000 = .error .rsvBits := by decide

/-- V-B18 to V-B27. -/
theorem test_decode_bad_commands :
    decode 0x10450000000 = .error .illOp ∧ decode 0x104E0000000 = .error .illOp ∧
    decode 0x10410000002 = .error .rsvBits ∧ decode 0x10410000003 = .error .rsvBits ∧
    decode 0x10410000004 = .error .rsvBits ∧ decode 0x10430010000 = .error .rsvBits ∧
    decode 0x10400000001 = .error .rsvBits ∧ decode 0x10420000001 = .error .rsvBits ∧
    decode 0x10440000001 = .error .rsvBits ∧ decode 0x104F0000001 = .error .rsvBits := by decide

/-- The words of R100's listing come out of the encoder. -/
theorem test_encode_listing :
    encode .nop = 0x10400000000 ∧ encode (.toneStart 0) = 0x10410000000 ∧ encode (.toneStart 1) = 0x10410000001 ∧
    encode .toneStop = 0x10420000000 ∧ encode (.debStart 600) = 0x10430000258 ∧ encode .rngDraw = 0x10440000000 ∧
    encode .clrErr = 0x104F0000000 ∧ encode (.wrRngState 0x12345678) = 0x13812345678 ∧
    encode (.wrToneHp 3) = 0x11000000003 := by decide

/-! ### One transaction each -/

/-- V-B1. -/
theorem test_rd_id : (afterWord State.reset 0x00000000000).busRdataQ = 0x53494D4E := by decide

/-- V-T1: STATUS = 0x09. -/
theorem test_rd_status : (afterWord toneState 0x00800000000).busRdataQ = 0x09 := by decide

/-- P5: ERR reads 7 and is not cleared by it. -/
theorem test_rd_err :
    (afterWord { State.reset with errCode := 7 } 0x00C00000000).busRdataQ = 7 ∧
    (afterWord { State.reset with errCode := 7 } 0x00C00000000).errCode = 7 := by decide

/-- Program P2's staging registers read back; the DATA bits of a read are ignored (R81). -/
theorem test_rd_staging :
    (afterWord stagedState 0x01000000000).busRdataQ = 5 ∧ (afterWord stagedState 0x014FFFFFFFF).busRdataQ = 2 ∧
    (afterWord stagedState 0x01800000000).busRdataQ = 2 ∧ (afterWord stagedState 0x01C00000000).busRdataQ = 1 := by
  decide

/-- V-T1: TE_HP = 3, TE_REMAIN = 4, TE_CTRL = 0, TE_RELOAD = 4; R162: TE_CTRL is 1 for SWEEP. -/
theorem test_rd_engine :
    (afterWord toneState 0x02000000000).busRdataQ = 3 ∧ (afterWord toneState 0x02400000000).busRdataQ = 4 ∧
    (afterWord toneState 0x02800000000).busRdataQ = 0 ∧ (afterWord toneState 0x02C00000000).busRdataQ = 4 ∧
    (afterWord sweepState 0x02800000000).busRdataQ = 1 := by decide

/-- V-D3: DEB_RESULT = 0x929; V-D4: 0xCF. -/
theorem test_rd_deb_result :
    (afterWord { State.reset with debLast := 9, debAcc := 9 } 0x03000000000).busRdataQ = 0x929 ∧
    (afterWord { State.reset with debRel := true, debAcc := 15 } 0x03000000000).busRdataQ = 0xCF := by decide

/-- P3: DEB_LEFT = 595. -/
theorem test_rd_deb_left : (afterWord { State.reset with debLeft := 595 } 0x03400000000).busRdataQ = 0x253 := by decide

/-- V-R4 and R193's example. -/
theorem test_rd_rng :
    (afterWord State.reset 0x03C00000000).busRdataQ = 0x10 ∧
    (afterWord { State.reset with rngOut := 1, rngValid := true } 0x03C00000000).busRdataQ = 0x121 ∧
    (afterWord { State.reset with rngState := 0x107843B0 } 0x03800000000).busRdataQ = 0x107843B0 := by decide

/-- V-B16: the widest half-period is stored; V-B15: a wider one is refused and TONE_HP is unchanged. -/
theorem test_wr_tone_hp :
    (afterWord State.reset 0x1100000FFFF).stgHp = 0xFFFF ∧ (afterWord State.reset 0x11000010000).stgHp = 0 ∧
    (afterWord State.reset 0x11000010000).errCode = 2 := by decide

/-- P2: each staging write reaches its own register. -/
theorem test_wr_staging :
    (afterWord State.reset 0x11400000002).stgCnt = 2 ∧ (afterWord State.reset 0x11800000002).stgStep = 2 ∧
    (afterWord State.reset 0x11C00000001).stgFloor = 1 := by decide

/-- V-B17; V-R5: RNG_OUT is unchanged. -/
theorem test_wr_rng_state :
    (afterWord State.reset 0x138FFFFFFFF).rngState = 0xFFFFFFFF ∧
    (afterWord { State.reset with rngOut := 1, rngValid := true } 0x138FFFFFFFF).rngOut = 1 := by decide

/-- V-B28. -/
theorem test_nop :
    (afterWord State.reset 0x10400000000).errCode = 0 ∧ (afterWord State.reset 0x10400000000).busErrQ = false := by decide

/-- V-B29 to V-B31: TE_ZERO from reset, TE_ZERO for a SWEEP with a zero step, TE_BUSY while Active. -/
theorem test_tone_start_refused :
    (afterWord State.reset 0x10410000000).errCode = 4 ∧
    (afterWord { State.reset with stgHp := 3, stgCnt := 4 } 0x10410000001).errCode = 4 ∧
    (afterWord toneState 0x10410000000).errCode = 3 ∧ (afterWord toneState 0x10410000000).teRemaining = 4 := by decide

/-- P2, first row of its trace. -/
theorem test_tone_start_sweep :
    (afterWord stagedState 0x10410000001).teHp = 5 ∧ (afterWord stagedState 0x10410000001).teRemaining = 2 ∧
    (afterWord stagedState 0x10410000001).teCb = .sweep ∧ (afterWord stagedState 0x10410000001).teStep = 2 ∧
    audN (afterWord stagedState 0x10410000001) = true := by decide

/-- V-T5: TE_HP and TE_RELOAD are kept; V-T4: a tick in the same cycle runs first, then the stop. -/
theorem test_tone_stop :
    (afterWord toneState 0x10420000000).teActive = false ∧ (afterWord toneState 0x10420000000).teHp = 3 ∧
    (afterWord toneState 0x10420000000).teReload = 4 ∧
    audP (afterPorts { toneState with tePhaseCnt := 2 } { presentWord 0x10420000000 with tick := true }) = false := by
  decide

/-- R130's example, V-D6 (TIMEOUT = 0) and V-B32 (DEB_BUSY). -/
theorem test_deb_start :
    (afterWord State.reset 0x10430000258).debBusy = true ∧ (afterWord State.reset 0x10430000258).debLeft = 600 ∧
    (afterWord State.reset 0x10430000000).debBusy = false ∧ (afterWord waitState 0x10430000002).errCode = 5 := by decide

/-- V-R3, third row (`frc` = 0xAB) and first row (wrap). -/
theorem test_rng_draw :
    (afterPorts { State.reset with rngState := 0x12345678 } { presentWord 0x10440000000 with frc := 0xAB }).rngState
      = 0x107843B0 ∧
    (afterPorts { State.reset with rngState := 0xFFFFFFFF } (presentWord 0x10440000000)).rngState = 0xFEA5B1CC ∧
    (afterPorts { State.reset with rngState := 0xFFFFFFFF } (presentWord 0x10440000000)).rngOut = 2 := by decide

/-- R7: `frc` has FRC_W bits; with FRC_W = 8 a ninth bit does not exist. -/
theorem test_rng_draw_width :
    (afterPorts State.reset { presentWord 0x10440000000 with frc := 0x15A }).rngState = 0x79BF7EA3 := by decide

/-- V-B34, V-B35. -/
theorem test_clr_err :
    (afterWord { State.reset with errCode := 7 } 0x104F0000000).errCode = 0 ∧
    (afterWord { State.reset with errCode := 1 } 0x104F0000001).errCode = 1 ∧
    (afterWord { State.reset with errCode := 1 } 0x104F0000001).busErrQ = true := by decide

/-! ### Strobes and reset -/

/-- P2, ticks 10 and 18: the chain arms half-period 3; at half-period 1 it stops. -/
theorem test_tick_sweep :
    (tickStep sweepState).teHp = 3 ∧ (tickStep sweepState).teRemaining = 2 ∧ (tickStep sweepState).teActive = true ∧
    (tickStep sweepState).audPhase = false ∧
    (tickStep { sweepState with teHp := 1, tePhaseCnt := 0 }).teActive = false := by decide

/-- P1, tick 3: toggle 1. -/
theorem test_tick_toggle :
    audP (tickStep { toneState with tePhaseCnt := 2 }) = true ∧
    (tickStep { toneState with tePhaseCnt := 2 }).teRemaining = 3 := by decide

/-- V-D11: the sample ends the wait by release, then DEB_START is accepted in the same cycle. -/
theorem test_sample_then_start :
    let t := afterPorts { waitState with debAcc := 5, debLast := 5 } { presentWord 0x10430000002 with sampleStb := true }
    t.debBusy = true ∧ t.debAcc = 0 ∧ t.debLeft = 2 ∧ t.busErrQ = false := by decide

/-- V-D10: the sample is taken first; the DEB_START is refused. -/
theorem test_sample_then_refused :
    let t := afterPorts waitState { presentWord 0x10430000002 with sampleStb := true, btn := 5 }
    t.debBusy = true ∧ t.debAcc = 5 ∧ t.debLeft = 1 ∧ t.errCode = 5 := by decide

/-- V-T8: the tick completes the tone, and the TONE_START of the same cycle is accepted. -/
theorem test_tick_then_start :
    let t := afterPorts { toneState with teHp := 1, teRemaining := 1, stgHp := 1, stgCnt := 1 }
      { presentWord 0x10410000000 with tick := true }
    t.teActive = true ∧ t.teRemaining = 1 ∧ t.busErrQ = false ∧ audP t = false := by decide

/-- V-X1: with `rst` only the reset runs. -/
theorem test_reset_wins :
    let t := afterPorts { State.reset with stgHp := 3, stgCnt := 4 }
      { presentWord 0x10410000000 with rst := true, tick := true }
    t.teActive = false ∧ t.stgHp = 0 ∧ t.busErrQ = false := by decide

/-- R101: a strobe before a transaction line stands in the same cycle; a value of `frc` holds from the cycle after its
line on, in the closing cycle of the run (R258) too. -/
theorem test_load_program :
    (loadProgram 0 [.frc 0xAB, .bus .tick (.rd 0x08), .reset] State.reset).script =
      [Ports.idle, { presentWord 0x00800000000 with frc := 0xAB, tick := true },
        { Ports.idle with frc := 0xAB, rst := true }, { Ports.idle with frc := 0xAB }] := by decide

/-- P6's first three lines: RNG_STATE = 0x512A546D, RNG_OUT reads 0x121; the closing cycle clears the reply. -/
theorem test_observe_draw :
    observe 0 (.frc 0x3C :: draw) State.reset =
      .next { replies := [⟨0, false⟩, ⟨0, false⟩, ⟨0x121, false⟩],
              final := { State.reset with rngState := 0x512A546D, rngOut := 1, rngValid := true } } := by rfl

/-- P5's first and fourth lines: the error is pulsed after its own line only. -/
theorem test_observe_error :
    observe 0 [.bus .none (.wr 0x20 1), .bus .none (.rd 0x0C)] State.reset =
      .next { replies := [⟨0, true⟩, ⟨7, false⟩], final := { State.reset with errCode := 7 } } := by rfl

/-! ### Witnesses: the hypotheses of each statement, met -/

theorem test_witness_round_trip : Instr.WellFormed (.toneStart 1) ∧ Instr.WellFormed (.debStart 0xFFFF) := by decide

/-- IllegalWordsRaiseTheirError: a word in each clause, at the ends of its range. -/
theorem test_witness_illegal_addresses :
    (twAddr 0x00100000000).extractLsb' 0 2 ≠ 0#2 ∧ (twAddr 0x1FF00000000).extractLsb' 0 2 ≠ 0#2 ∧
    (twAddr 0x04000000000).extractLsb' 0 2 = 0#2 ∧ 0x40#8 ≤ twAddr 0x04000000000 ∧
    (twAddr 0x1FC00000000).extractLsb' 0 2 = 0#2 ∧ twAddr 0x1FC00000000 ≤ 0xFC#8 ∧
    twWe 0x10000000000 = true ∧ twAddr 0x10000000000 = 0x00 ∧ twWe 0x13C00000000 = true ∧ twAddr 0x13C00000000 = 0x3C ∧
    twWe 0x00400000000 = false ∧ twAddr 0x00400000000 = 0x04 := by decide

theorem test_witness_illegal_data :
    twWe 0x11000010000 = true ∧ twAddr 0x11000010000 = 0x10 ∧ (twData 0x11000010000).extractLsb' 16 16 ≠ 0#16 ∧
    twAddr 0x11C80000000 = 0x1C ∧ (twData 0x11C80000000).extractLsb' 16 16 ≠ 0#16 ∧
    cmdOp (twData 0x10450000000) = 0x5 ∧ cmdOp (twData 0x104E0000000) = 0xE ∧
    cmdOp (twData 0x10400000001) = 0x0 ∧ cmdPayload (twData 0x10400000001) ≠ 0 ∧
    cmdOp (twData 0x104F8000000) = 0xF ∧ cmdPayload (twData 0x104F8000000) ≠ 0 ∧
    2#2 ≤ (cmdPayload (twData 0x10410000002)).extractLsb' 0 2 ∧
    (cmdPayload (twData 0x10410000004)).extractLsb' 2 26 ≠ 0#26 ∧
    (cmdPayload (twData 0x10430010000)).extractLsb' 16 12 ≠ 0#12 := by decide

/-- A cycle that presents a word of the table, one that presents none, one that presents no row. -/
theorem test_witness_cycles :
    let a := { State.reset with script := [presentWord 0x10430000258] }
    let b := { State.reset with script := [Ports.idle] }
    let c := { State.reset with script := [presentWord 0x10450000000] }
    ((takeInputs a).ports.rst = false ∧ (takeInputs a).ports.busValid = true ∧
      decode (portsTw (takeInputs a).ports) = .instr (.debStart 600)) ∧
    ((takeInputs b).ports.rst = false ∧ (takeInputs b).ports.busValid = false) ∧
    ((takeInputs c).ports.busValid = true ∧ decode (portsTw (takeInputs c).ports) = .error .illOp) := by decide

theorem test_witness_fetch_word : decodeTableWord 48 0x10430000258 = some (.debStart 600) := by decide

theorem test_witness_reset_cycle :
    (takeInputs { toneState with script := [{ Ports.idle with rst := true }] }).ports.rst = true := by decide

/-- StepTakesOneCycleOfInputs, both clauses: a scripted cycle, and a cycle on free inputs. -/
theorem test_witness_inputs :
    (∃ t, step { State.reset with script := [Ports.idle] } = .next t) ∧
    (∃ t, step State.reset = .next t) ∧ State.reset.script = [] := by
  refine ⟨⟨_, rfl⟩, ?_, rfl⟩
  rcases step_cases State.reset with ⟨_, h⟩ | ⟨_, _, _, h⟩ | ⟨_, _, e, _, _, h⟩ | ⟨_, _, j, _, _, h⟩
  · exact ⟨_, h⟩
  · exact ⟨_, h⟩
  · exact ⟨_, h⟩
  · rw [h]
    rcases exec_cases j (beforeHost State.reset) with ⟨v, h, _⟩ | ⟨e, h, _⟩ | ⟨t, h, _⟩ <;> exact ⟨_, h⟩

/-- The invariant is met Idle, in a STOP tone, at the end of a SWEEP tone, and in a wait. -/
theorem test_witness_invariant :
    Invariant State.reset ∧ Invariant toneState ∧ Invariant sweepState ∧ Invariant waitState :=
  ⟨by decide, by decide, by decide, by decide⟩

theorem test_witness_reachable : Host.Core.run core 0 { State.reset with script := [], frcTop := 31 } =
    .next { State.reset with frcTop := 31 } := rfl

/-- ErrorsArePrecise and FirstErrorIsKept: a step that raises with no error held and with one held, and steps that do not
raise, among them the two that clear `err_code`. -/
theorem test_witness_errors :
    (afterWord State.reset 0x10450000000).busErrQ = true ∧
    (afterWord { State.reset with errCode := 7 } 0x10450000000).busErrQ = true ∧
    (afterWord { State.reset with errCode := 7 } 0x104F0000000).busErrQ = false ∧
    presented (presentWord 0x104F0000000) = some .clrErr ∧
    (afterPorts { State.reset with errCode := 7 } { Ports.idle with rst := true }).errCode = 0 := by decide

/-- FirstErrorIsKept, both clauses: an error of each kind of check, and a transaction that raises none. -/
theorem test_witness_checks :
    check State.reset true 0x04 0x10000000 = 4 ∧ check toneState true 0x04 0x10000000 = 3 ∧
    check waitState true 0x04 0x30000258 = 5 ∧ check State.reset true 0x04 0x50000000 = 1 ∧
    check State.reset true 0x41 0 = 9 ∧ check State.reset false 0x08 0 = 0 := by decide

theorem test_witness_steps_exist :
    step ({ State.reset with errCode := 7 }.withFetchWord 48 0x10450000000) =
      .next (afterWord { State.reset with errCode := 7 } 0x10450000000) ∧
    step (toneState.withFetchWord 48 0x00800000000) = .next (afterWord toneState 0x00800000000) := ⟨rfl, rfl⟩

theorem test_witness_reads : Instr.isRead .rdId = true ∧ Instr.isRead .rdRngOut = true := by decide

theorem test_witness_wide_staging : (0x00010000#32).extractLsb' 16 16 ≠ 0#16 := by decide

/-- ReadAfterWriteSeesTheWrite: a write and a read of each register, in two cycles. -/
theorem test_witness_write_then_read :
    presented (presentWord 0x1100000FFFF) = some (.wrToneHp 0xFFFF) ∧
    presented { presentWord 0x01000000000 with tick := true } = some .rdToneHp ∧
    presented (presentWord 0x11400000000) = some (.wrToneCnt 0) ∧ presented (presentWord 0x01400000000) = some .rdToneCnt ∧
    presented (presentWord 0x11800000002) = some (.wrSweepStep 2) ∧
    presented (presentWord 0x01800000000) = some .rdSweepStep ∧
    presented (presentWord 0x11C00000001) = some (.wrSweepFloor 1) ∧
    presented (presentWord 0x01C00000000) = some .rdSweepFloor ∧
    presented (presentWord 0x138FFFFFFFF) = some (.wrRngState 0xFFFFFFFF) ∧
    presented (presentWord 0x03800000000) = some .rdRngState ∧
    (presentWord 0x1100000FFFF).rst = false ∧ (presentWord 0x01000000000).rst = false := by decide

theorem test_witness_payload : (1#28 : BitVec 28) ≠ 0#28 ∧ (0x0010000#28).extractLsb' 16 12 ≠ 0#12 := by decide

/-- ToneStartLatchesAndArms: STOP with a zero step, SWEEP with step 1, at the smallest half-period and count. -/
theorem test_witness_tone_start :
    (let s := { State.reset with stgHp := 1, stgCnt := 1 }
     s.teActive = false ∧ s.stgHp ≠ 0 ∧ s.stgCnt ≠ 0 ∧ ((0#2 : BitVec 2) = 1 → s.stgStep ≠ 0)) ∧
    (let s := { State.reset with stgHp := 1, stgCnt := 1, stgStep := 1 }
     s.teActive = false ∧ s.stgHp ≠ 0 ∧ s.stgCnt ≠ 0 ∧ ((1#2 : BitVec 2) = 1 → s.stgStep ≠ 0)) := by decide

/-- ToneStartRefusals: each clause, CB at the ends of its ranges. -/
theorem test_witness_tone_start_refused :
    2#2 ≤ (2#2 : BitVec 2) ∧ 2#2 ≤ (3#2 : BitVec 2) ∧ ((1#2 : BitVec 2) < 2#2 ∧ toneState.teActive = true) ∧
    ((0#2 : BitVec 2) < 2#2 ∧ State.reset.teActive = false ∧ (State.reset.stgHp = 0 ∨ State.reset.stgCnt = 0)) ∧
    (let s := { State.reset with stgHp := 1, stgCnt := 1 }
     s.teActive = false ∧ s.stgHp ≠ 0 ∧ s.stgCnt ≠ 0 ∧ s.stgStep = 0) := by decide

/-- ToneStopForcesIdle and ToneStopBeatsTheTick. -/
theorem test_witness_tone_stop :
    Invariant State.reset ∧ State.reset.teActive = false ∧
    (let s := { sweepState with script := [{ presentWord 0x10420000000 with tick := true }] }
     (takeInputs s).ports.rst = false ∧ presented (takeInputs s).ports = some .toneStop ∧
       step s = .next (stateOf (step s))) := ⟨by decide, rfl, rfl, by decide, rfl⟩

theorem test_witness_deb_start : State.reset.debBusy = false ∧ waitState.debBusy = true := by decide

/-- TickStepFollowsItsRule, Idle and counting. -/
theorem test_witness_tick_counts :
    (Invariant State.reset ∧ State.reset.teActive = false) ∧
    Invariant toneState ∧ toneState.teActive = true ∧ toneState.tePhaseCnt.toNat + 1 < toneState.teHp.toNat :=
  ⟨⟨by decide, rfl⟩, by decide, rfl, by decide⟩

/-- `toneState` in the tick before a toggle, with the half-periods that remain. -/
def toneFires (remaining : Half) : State := { toneState with tePhaseCnt := 2, teRemaining := remaining }

/-- TickStepFollowsItsRule, a toggle that is not the last, and a STOP tone's last. -/
theorem test_witness_tick_toggles :
    (Invariant (toneFires 2) ∧ (toneFires 2).tePhaseCnt.toNat + 1 = (toneFires 2).teHp.toNat ∧
      1 < (toneFires 2).teRemaining.toNat) ∧
    Invariant (toneFires 1) ∧ (toneFires 1).teActive = true ∧ (toneFires 1).teRemaining.toNat = 1 ∧
      (toneFires 1).teCb = .stop := ⟨⟨by decide, by decide⟩, by decide, by decide⟩

/-- `sweepState` with another step and floor. -/
def sweepEnds (st fl : Half) : State := { sweepState with teStep := st, teFloor := fl }

/-- TickStepFollowsItsRule, a SWEEP tone that ends for the step, that ends for the floor, and that chains. -/
theorem test_witness_tick_sweeps :
    (Invariant (sweepEnds 5 1) ∧ (sweepEnds 5 1).teHp.toNat ≤ (sweepEnds 5 1).teStep.toNat) ∧
    (Invariant (sweepEnds 2 4) ∧ (sweepEnds 2 4).teHp.toNat - (sweepEnds 2 4).teStep.toNat < (sweepEnds 2 4).teFloor.toNat) ∧
    (Invariant (sweepEnds 2 3) ∧ (sweepEnds 2 3).tePhaseCnt.toNat + 1 = (sweepEnds 2 3).teHp.toNat ∧
      (sweepEnds 2 3).teRemaining.toNat = 1 ∧ (sweepEnds 2 3).teCb = .sweep ∧
      (sweepEnds 2 3).teFloor.toNat ≤ (sweepEnds 2 3).teHp.toNat - (sweepEnds 2 3).teStep.toNat) :=
  ⟨⟨by decide, by decide⟩, ⟨by decide, by decide⟩, by decide, by decide⟩

/-- `waitState` with one sample left and the given button held so far. -/
def waitLast (m : ButtonMask) : State := { waitState with debAcc := m, debLast := m, debLeft := 1 }

/-- SampleStepFollowsItsRule: dropped; release with the budget just spent; timeout; going on. -/
theorem test_witness_sample :
    (Invariant State.reset ∧ State.reset.debBusy = false) ∧
    (Invariant (waitLast 1) ∧ (waitLast 1).debBusy = true ∧ (waitLast 1).debAcc ||| 0#4 ≠ 0) ∧
    (Invariant (waitLast 0) ∧ (waitLast 0).debAcc ||| 0#4 = 0) ∧
    (Invariant waitState ∧ (8#4 : ButtonMask) ≠ 0) :=
  ⟨⟨by decide, rfl⟩, ⟨by decide, by decide⟩, ⟨by decide, by decide⟩, by decide, by decide⟩

theorem test_witness_lost_strobes : State.reset.teActive = false ∧ State.reset.debBusy = false := by decide

/-- ToneTogglesExactly at the last toggle before the end, and StopToneEndsExactly on both sides of the end. -/
theorem test_witness_tone_run :
    toneState.teActive = true ∧ toneState.audEn = true ∧ toneState.tePhaseCnt = 0 ∧ toneState.teCb = .stop ∧
    3 < toneState.teRemaining.toNat ∧ 2 < toneState.teHp.toNat ∧ 1 ≤ toneState.teHp.toNat ∧
    1 ≤ toneState.teRemaining.toNat ∧ 11 < toneState.teRemaining.toNat * toneState.teHp.toNat ∧
    toneState.teRemaining.toNat * toneState.teHp.toNat ≤ 12 := by decide

/-- EngineTimeIsTheTicks: a tick, and a transaction in a tick's cycle; the engine Idle. -/
theorem test_witness_engine_time :
    State.reset.teActive = false ∧
    ∀ p ∈ [{ Ports.idle with tick := true }, { presentWord 0x11000000007 with tick := true }],
      p.rst = false ∧ presented p ≠ some .toneStop ∧ ∀ cb, presented p ≠ some (.toneStart cb) := by decide

/-- ChainedHalfPeriodsShrink, its second clause: the tick that completes a SWEEP tone and chains. -/
theorem test_witness_chain :
    Invariant sweepState ∧ sweepState.teActive = true ∧ sweepState.teCb = .sweep ∧ sweepState.teRemaining = 1 ∧
    sweepState.tePhaseCnt.toNat + 1 = sweepState.teHp.toNat ∧ (tickStep sweepState).teActive = true ∧
    sweepState.teStep.toNat < sweepState.teHp.toNat ∧
    sweepState.teFloor.toNat ≤ sweepState.teHp.toNat - sweepState.teStep.toNat := by decide

/-- WaitAccumulatesItsSamples (V-D1, ended by its fifth sample) and WaitEndsWithinItsBudget (V-D2 and one sample less). -/
theorem test_witness_wait_run :
    (samples [0, 2, 6, 4, 0] (debStart 600 State.reset)).debBusy = false ∧
    (∀ k, k < 5 → (samples ([0, 2, 6, 4, 0].take k) (debStart 600 State.reset)).debBusy = true) ∧
    (3#16 : Half).toNat ≤ ([0, 0, 0] : List ButtonMask).length ∧
    (∀ m ∈ ([0, 0, 0] : List ButtonMask), m = 0) ∧ ([0, 0] : List ButtonMask).length < (3#16 : Half).toNat := by decide

/-- The four frames of a step: a cycle without reset, tick or sample that presents a read; and a refused TONE_START and
DEB_START, whose error bit is set. -/
theorem test_witness_step_frames :
    let s := { toneState with script := [presentWord 0x00800000000] }
    ((takeInputs s).ports.rst = false ∧ (takeInputs s).ports.tick = false ∧ (takeInputs s).ports.sampleStb = false ∧
      presented (takeInputs s).ports = some .rdStatus) ∧
    step s = .next (stateOf (step s)) ∧
    (afterWord toneState 0x10410000000).busErrQ = true ∧ (afterWord waitState 0x10430000002).busErrQ = true :=
  ⟨by decide, rfl, by decide, by decide⟩

/-- GeneratorIsDeterminedByDraws and NothingElseFlowsIntoTheGenerator. -/
theorem test_witness_generator :
    (∀ p ∈ [presentWord 0x13812345678, presentWord 0x10440000000], p.rst = false) ∧
    [presentWord 0x13812345678, presentWord 0x10440000000].getLast?.bind presented = some .rngDraw ∧
    (let a := { State.reset with script := [presentWord 0x10440000000] }
     let b := { toneState with script := [presentWord 0x10440000000], errCode := 7 }
     SameRng a b ∧ a.frcTop = b.frcTop ∧ (takeInputs a).ports = (takeInputs b).ports ∧
       step a = .next (stateOf (step a)) ∧ step b = .next (stateOf (step b))) :=
  ⟨by decide, by decide, by decide, by decide, by decide, rfl, rfl⟩

/-- GeneratorReads: no draw yet. -/
theorem test_witness_no_draw : Invariant State.reset ∧ State.reset.rngValid = false := ⟨by decide, rfl⟩

end Sys2Proof.Tests
end

section
/-! SUPPORT. The order of one clock cycle (00_scope.md R10), an equation per part, and the step that runs a decoded
instruction. -/
namespace Sys2Proof.Machine

/-- R10: without reset, HostStep's part of the cycle comes after the inputs, TickStep and SampleStep. -/
theorem step_of_not_rst {s : State} (hrst : (takeInputs s).ports.rst = false) :
    step s = hostPhase (beforeHost s) := by
  simp [step, cycle, beforeHost, hrst]

/-- R110: a presented transaction gets its HostStep. -/
theorem hostPhase_of_busValid {s : State} (hvalid : s.ports.busValid = true) :
    hostPhase s = hostStep (portsTw s.ports) s := by
  simp [hostPhase, hvalid]

/-- R110: the HostStep of a word of the table is its instruction. -/
theorem hostStep_of_decode_instr {tw : Tw} {i : Instr} (hdec : decode tw = .instr i) (s : State) :
    hostStep tw s = exec i s := by
  simp [hostStep, hdec]

/-- Settles O5: the cycle's parts in R10's order, where tick and sample leave the ports, so the transaction, as they
were. -/
theorem stepRunsDecodedInstruction : Obligations.StepRunsDecodedInstruction := by
  intro s i hrst hvalid hdec
  have hports : (beforeHost s).ports = (takeInputs s).ports := beforeHost_ports s
  rw [← hports] at hvalid hdec
  calc step s
    _ = hostPhase (beforeHost s) := step_of_not_rst hrst
    _ = hostStep (portsTw (beforeHost s).ports) (beforeHost s) := hostPhase_of_busValid hvalid
    _ = exec i (beforeHost s) := hostStep_of_decode_instr hdec _

end Sys2Proof.Machine
end

section
/-! SUPPORT. Every step gives a next state (60_exceptions.md R216), and the induction over a run of the machine. -/
namespace Sys2Proof.Machine

/-- R216, for an instruction. -/
theorem exec_eq_next (i : Instr) (s : State) : ∃ t, exec i s = .next t := by
  rcases exec_cases i s with ⟨v, h, -⟩ | ⟨e, h, -⟩ | ⟨t, h, -⟩ <;> exact ⟨_, h⟩

/-- R216, for a cycle. -/
theorem step_eq_next (s : State) : ∃ t, step s = .next t := by
  rcases step_cases s with ⟨-, h⟩ | ⟨-, -, -, h⟩ | ⟨-, -, e, -, -, h⟩ | ⟨-, -, i, -, -, h⟩
  · exact ⟨_, h⟩
  · exact ⟨_, h⟩
  · exact ⟨_, h⟩
  · rw [h]
    exact exec_eq_next i _

/-- What every step keeps holds after any run that began with it. -/
theorem run_keeps {P : State → Prop} (hstep : ∀ s t, P s → step s = .next t → P t) (n : Nat) {s t : State}
    (hs : P s) (hrun : Host.Core.run core n s = .next t) : P t := by
  induction n generalizing s with
  | zero => cases hrun; exact hs
  | succ n ih =>
    obtain ⟨u, hu⟩ := step_eq_next s
    change runSteps (n + 1) s = .next t at hrun
    rw [runSteps_succ, hu, onNext_next] at hrun
    exact ih (hstep s u hs hu) hrun

end Sys2Proof.Machine
end

section
/-! SUPPORT. The invariant (10_state.md R29 and what supports it) as one predicate per unit, and each unit's operations
keep its own. An operation of another unit leaves the predicate's fields alone, so the predicate of the new state is the
old one by definition. -/
namespace Sys2Proof.Machine

/-- The Tone Engine's part of the invariant: R29's clauses, and a chain's count is not 0 (R150). -/
abbrev EngineInv (s : State) : Prop :=
  ToneInv s ∧ (s.teCb = .sweep ∧ s.teActive = true → 1#16 ≤ s.teReload)

/-- The debouncer's part: R29's clause, a busy wait has not ended (R131), the last sample is in the accumulation. -/
abbrev DebouncerInv (s : State) : Prop :=
  WaitInv s ∧ (s.debBusy = true → s.debRel = false ∧ (s.debAcc = 0#4 ∨ s.debLast ≠ 0#4)) ∧
  s.debLast ||| s.debAcc = s.debAcc

/-- The generator's part: no index before the first draw (R45). -/
abbrev GeneratorInv (s : State) : Prop := s.rngValid = false → s.rngOut = 0#2

/-- The error record's part: no reserved code (R211). -/
abbrev ErrorInv (s : State) : Prop := s.errCode ≤ 9#4

theorem invariant_iff (s : State) : Invariant s ↔ EngineInv s ∧ DebouncerInv s ∧ GeneratorInv s ∧ ErrorInv s :=
  ⟨fun ⟨⟨tone, wait⟩, chain, busy, last, rng, err⟩ => ⟨⟨tone, chain⟩, ⟨wait, busy, last⟩, rng, err⟩,
    fun ⟨⟨tone, chain⟩, ⟨wait, busy, last⟩, rng, err⟩ => ⟨⟨tone, wait⟩, chain, busy, last, rng, err⟩⟩

/-- Settles O12: every clause on the reset values of R241. -/
theorem invariantHoldsAtReset : Obligations.InvariantHoldsAtReset := by
  unfold Obligations.InvariantHoldsAtReset
  decide

/-! ### The Tone Engine -/

theorem half_one_le_iff (v : Half) : 1#16 ≤ v ↔ v ≠ 0#16 := by bv_omega

/-- R166: from every state. -/
theorem engineInv_doStop (s : State) : EngineInv (doStop s) := by simp [EngineInv, ToneInv]

/-- R165: a tone that is not empty, and for SWEEP a chain that shrinks and is not empty. -/
theorem engineInv_arm {hp n : Half} {cb : Cb} {s : State} (hhp : hp ≠ 0#16) (hn : n ≠ 0#16)
    (hchain : cb = .sweep → 1#16 ≤ s.teStep ∧ 1#16 ≤ s.teReload) : EngineInv (arm hp n cb s) := by
  have hlt : 0#16 < hp := by bv_omega
  refine ⟨⟨fun _ => ⟨(half_one_le_iff hp).2 hhp, hlt, (half_one_le_iff n).2 hn, rfl⟩, ?_, ?_⟩, ?_⟩
  · intro hidle
    cases hidle
  · exact fun ⟨hcb, _⟩ => (hchain hcb).1
  · exact fun ⟨hcb, _⟩ => (hchain hcb).2

/-- R150: what TONE_START checks is what arming needs. -/
theorem engineInv_toneStart {cb : BitVec 2} {s : State} (haccepted : toneStartError cb s = none) :
    EngineInv (toneStart cb s) := by
  obtain ⟨_, _, hhp, hcnt, hstep⟩ := (toneStartError_eq_none cb s).1 haccepted
  refine engineInv_arm hhp hcnt fun hcb => ?_
  have hone : cb = 1#2 := by simpa [cbOfBits] using hcb
  exact ⟨(half_one_le_iff _).2 (hstep hone), (half_one_le_iff _).2 hcnt⟩

/-- R170 to R173. -/
theorem engineInv_tickStep {s : State} (h : EngineInv s) : EngineInv (tickStep s) := by
  have ⟨⟨hactive, _, hsweep⟩, hreload⟩ := h
  rcases tickStep_cases s with ⟨_, ht⟩ | ⟨ha, hlt, ht⟩ | ⟨ha, _, hrem, ht⟩ | ⟨_, _, _, _, ht⟩ |
    ⟨ha, _, _, hcb, hlt, _, ht⟩
  · rw [ht]
    exact h
  · rw [ht]
    obtain ⟨hhp, _, hn, haud⟩ := hactive ha
    exact ⟨⟨fun _ => ⟨hhp, hlt, hn, haud⟩, fun hi => absurd (ha.symm.trans hi) (by decide), hsweep⟩, hreload⟩
  · rw [ht]
    obtain ⟨hhp, hphase, _, haud⟩ := hactive ha
    have hzero : 0#16 < s.teHp := by bv_omega
    exact ⟨⟨fun _ => ⟨hhp, hzero, (half_one_le_iff _).2 hrem, haud⟩,
      fun hi => absurd (ha.symm.trans hi) (by decide), hsweep⟩, hreload⟩
  · rw [ht]
    exact engineInv_doStop s
  · rw [ht]
    have hhp : s.teHp - s.teStep ≠ 0#16 := by bv_omega
    have hn : s.teReload ≠ 0#16 := (half_one_le_iff _).1 (hreload ⟨hcb, ha⟩)
    exact engineInv_arm (s := { s with audPhase := !s.audPhase }) hhp hn
      fun _ => ⟨hsweep ⟨hcb, ha⟩, hreload ⟨hcb, ha⟩⟩

/-! ### The debouncer -/

/-- R130: from every state; a TIMEOUT of 0 starts no wait. -/
theorem debouncerInv_debStart (timeout : Half) (s : State) : DebouncerInv (debStart timeout s) := by
  refine ⟨fun hbusy => ?_, by simp, by simp⟩
  have hne : timeout ≠ 0#16 := by simpa [debStart] using hbusy
  exact (half_one_le_iff timeout).2 hne

/-- R131. -/
theorem debouncerInv_sampleStep {s : State} (m : ButtonMask) (h : DebouncerInv s) :
    DebouncerInv (sampleStep m s) := by
  have hlast : m ||| (s.debAcc ||| m) = s.debAcc ||| m := by
    rw [BitVec.or_comm s.debAcc m, ← BitVec.or_assoc, BitVec.or_self]
  rcases sampleStep_cases m s with ⟨_, ht⟩ | ⟨_, _, ht⟩ | ⟨_, _, _, ht⟩ | ⟨hbusy, hheld, hleft, ht⟩
  · rw [ht]
    exact h
  · rw [ht]
    exact ⟨by simp, by simp, hlast⟩
  · rw [ht]
    exact ⟨by simp, by simp, hlast⟩
  · rw [ht]
    obtain ⟨_, hrun, _⟩ := h
    have hgoes : s.debAcc ||| m = 0#4 ∨ m ≠ 0#4 := by tauto
    exact ⟨fun _ => (half_one_le_iff _).2 hleft, fun _ => ⟨(hrun hbusy).1, hgoes⟩, hlast⟩

/-! ### The generator and the bus errors -/

/-- R190: after a draw there is an index. -/
theorem generatorInv_rngDraw (s : State) : GeneratorInv (rngDraw s) := by simp [GeneratorInv]

/-- R113. -/
theorem errorInv_clearErr (s : State) : ErrorInv (clearErr s) := by simp [ErrorInv]

/-- R211: codes 10 to 15 are no errors. -/
theorem busError_code_le (e : BusError) : e.code ≤ 9#4 := by cases e <;> decide

/-- R210: the code held, or the error's own. -/
theorem errorInv_raiseBusError {s : State} (e : BusError) (h : ErrorInv s) : ErrorInv (raiseBusError e s) := by
  unfold ErrorInv raiseBusError
  split
  · exact busError_code_le e
  · exact h

end Sys2Proof.Machine
end

section
/-! SUPPORT. Every part of a clock cycle keeps the invariant (10_state.md R29), so every step does, and it holds of every
state reached from reset. -/
namespace Sys2Proof.Machine

variable {s : State}

theorem invariant_raiseBusError (e : BusError) (h : Invariant s) : Invariant (raiseBusError e s) := by
  obtain ⟨engine, wait, rng, err⟩ := (invariant_iff s).1 h
  exact (invariant_iff _).2 ⟨engine, wait, rng, errorInv_raiseBusError e err⟩

theorem invariant_takeInputs (h : Invariant s) : Invariant (takeInputs s) := by
  rw [takeInputs_frame]
  exact h

theorem invariant_tickPhase (h : Invariant s) : Invariant (tickPhase s) := by
  unfold tickPhase
  split
  · obtain ⟨engine, wait, rng, err⟩ := (invariant_iff s).1 h
    refine (invariant_iff _).2 ⟨engineInv_tickStep engine, ?_⟩
    rw [tickStep_frame]
    exact ⟨wait, rng, err⟩
  · exact h

theorem invariant_samplePhase (h : Invariant s) : Invariant (samplePhase s) := by
  unfold samplePhase
  split
  · obtain ⟨engine, wait, rng, err⟩ := (invariant_iff s).1 h
    refine (invariant_iff _).2 ⟨?_, debouncerInv_sampleStep _ wait, ?_⟩
    all_goals rw [sampleStep_frame]
    · exact engine
    · exact ⟨rng, err⟩
  · exact h

theorem invariant_beforeHost (h : Invariant s) : Invariant (beforeHost s) :=
  invariant_samplePhase (invariant_tickPhase (invariant_takeInputs h))

/-- R110: whatever the transaction's instruction does. -/
theorem invariant_exec {i : Instr} {t : State} (h : Invariant s) (hexec : exec i s = .next t) : Invariant t := by
  rcases exec_cases i s with ⟨v, hv, -⟩ | ⟨e, he, -⟩ | ⟨u, hu, -, hwrite⟩
  · cases hexec.symm.trans hv
    exact h
  · cases hexec.symm.trans he
    exact invariant_raiseBusError e h
  · cases hexec.symm.trans hu
    change Invariant u
    obtain ⟨engine, wait, rng, err⟩ := (invariant_iff s).1 h
    rcases hwrite with ⟨v, -, rfl⟩ | ⟨v, -, rfl⟩ | ⟨v, -, rfl⟩ | ⟨v, -, rfl⟩ | ⟨v, -, rfl⟩ | ⟨-, rfl⟩ |
      ⟨cb, -, hok, rfl⟩ | ⟨-, rfl⟩ | ⟨n, -, -, rfl⟩ | ⟨-, rfl⟩ | ⟨-, rfl⟩
    · exact h
    · exact h
    · exact h
    · exact h
    · exact h
    · exact h
    · exact (invariant_iff _).2 ⟨engineInv_toneStart hok, wait, rng, err⟩
    · exact (invariant_iff _).2 ⟨engineInv_doStop s, wait, rng, err⟩
    · exact (invariant_iff _).2 ⟨engine, debouncerInv_debStart n s, rng, err⟩
    · exact (invariant_iff _).2 ⟨engine, wait, generatorInv_rngDraw s, err⟩
    · exact (invariant_iff _).2 ⟨engine, wait, rng, errorInv_clearErr s⟩

/-- Settles O13: each part of the cycle keeps the invariant, and a reset cycle makes it hold. -/
theorem everyStepKeepsTheInvariant : Obligations.EveryStepKeepsTheInvariant := by
  intro s t h hstep
  have hb : Invariant (beforeHost s) := invariant_beforeHost h
  rcases step_cases s with ⟨-, hs⟩ | ⟨-, -, -, hs⟩ | ⟨-, -, e, -, -, hs⟩ | ⟨-, -, i, -, -, hs⟩
  · cases hstep.symm.trans hs
    exact invariantHoldsAtReset
  · cases hstep.symm.trans hs
    exact hb
  · cases hstep.symm.trans hs
    exact invariant_raiseBusError e hb
  · exact invariant_exec hb (hs.symm.trans hstep)

/-- Settles O14: the invariant along the run, its clauses read as numbers. -/
theorem reachableStatesSatisfyR29 : Obligations.ReachableStatesSatisfyR29 := by
  intro cs top n t hrun
  have hinit : Invariant { State.reset with script := cs, frcTop := top } := invariantHoldsAtReset
  obtain ⟨⟨⟨hactive, hidle, hsweep⟩, hwait⟩, -⟩ := run_keeps everyStepKeepsTheInvariant n hinit hrun
  refine ⟨fun ha => ?_, hidle, hwait, fun hcb ha => hsweep ⟨hcb, ha⟩⟩
  obtain ⟨hhp, hphase, hrem, haud⟩ := hactive ha
  exact ⟨hhp, hphase, hrem, haud, by cases t.teCb <;> simp⟩

/-- Settles O44: R29 has `aud_en` follow `te_active`, and `aud_phase` is 0 while Idle. -/
theorem audioLinesAreDifferential : Obligations.AudioLinesAreDifferential := by
  rintro s ⟨⟨⟨hactive, hidle, -⟩, -⟩, -⟩
  constructor
  · intro ha
    obtain ⟨-, -, -, haud⟩ := hactive ha
    simp [audP, audN, haud]
  · intro hi
    obtain ⟨haud, -⟩ := hidle hi
    simp [audP, audN, haud]

end Sys2Proof.Machine
end

section
/-! SUPPORT. Which input ports the parts of a cycle read: a change of the others passes through unread (10_state.md R22,
00_scope.md R10). So a strobe that finds its unit Idle is lost (R47, R176, R227). -/
namespace Sys2Proof.Machine

/-- The state with other levels on its input ports. -/
def withPorts (q : Ports) (s : State) : State := { s with ports := q }

/-- The two cycles' inputs that HostStep reads are equal: the transaction and `frc` (R110, R190). -/
def SameHostInputs (p q : Ports) : Prop :=
  q.busValid = p.busValid ∧ portsTw q = portsTw p ∧ q.frc = p.frc

@[simp] theorem withPorts_ports (q : Ports) (s : State) : (withPorts q s).ports = q := rfl

/-! ### TickStep and SampleStep -/

theorem sweepAction_withPorts (q : Ports) (s : State) :
    sweepAction (withPorts q s) = withPorts q (sweepAction s) := by
  unfold sweepAction
  rw [apply_ite (withPorts q)]
  rfl

theorem complete_withPorts (q : Ports) (s : State) : complete (withPorts q s) = withPorts q (complete s) := by
  have hcb : (withPorts q s).teCb = s.teCb := rfl
  unfold complete
  rw [hcb]
  cases s.teCb with
  | stop => rfl
  | sweep => exact sweepAction_withPorts q s

/-- R170: a tick reads no port. -/
theorem tickStep_withPorts (q : Ports) (s : State) : tickStep (withPorts q s) = withPorts q (tickStep s) := by
  unfold tickStep timerFires
  simp only [apply_ite (withPorts q), ← complete_withPorts]
  rfl

/-- R131: a sample reads `btn` alone. -/
theorem sampleStep_withPorts (q : Ports) (m : ButtonMask) (s : State) :
    sampleStep m (withPorts q s) = withPorts q (sampleStep m s) := by
  unfold sampleStep
  simp only [apply_ite (withPorts q)]
  rfl

theorem tickPhase_withPorts {q : Ports} {s : State} (htick : q.tick = s.ports.tick) :
    tickPhase (withPorts q s) = withPorts q (tickPhase s) := by
  simp only [tickPhase, withPorts_ports, htick, tickStep_withPorts, apply_ite (withPorts q)]

theorem samplePhase_withPorts {q : Ports} {s : State} (hstb : q.sampleStb = s.ports.sampleStb)
    (hbtn : q.btn = s.ports.btn) : samplePhase (withPorts q s) = withPorts q (samplePhase s) := by
  simp only [samplePhase, withPorts_ports, hstb, hbtn, sampleStep_withPorts, apply_ite (withPorts q)]

/-- R170: a tick while Idle is dropped. -/
theorem tickPhase_of_idle {s : State} (hidle : s.teActive = false) : tickPhase s = s := by
  simp [tickPhase, tickStep, hidle]

/-- R131: a sample while no wait is busy is dropped. -/
theorem samplePhase_of_not_busy {s : State} (hfree : s.debBusy = false) : samplePhase s = s := by
  simp [samplePhase, sampleStep, hfree]

/-! ### HostStep -/

/-- Of the ports an instruction reads `frc` alone (R190). -/
theorem exec_withPorts {q : Ports} {i : Instr} {s t : State} (hfrc : q.frc = s.ports.frc)
    (hexec : exec i s = .next t) : exec i (withPorts q s) = .next (withPorts q t) := by
  cases i with
  | toneStart cb =>
    have herr : toneStartError cb (withPorts q s) = toneStartError cb s := rfl
    simp only [exec, execToneStart] at hexec ⊢
    rw [herr]
    cases h : toneStartError cb s <;> rw [h] at hexec <;> cases hexec <;> rfl
  | debStart n =>
    have hbusy : (withPorts q s).debBusy = s.debBusy := rfl
    simp only [exec, execDebStart] at hexec ⊢
    rw [hbusy]
    split at hexec
    · next h => cases hexec; rw [if_pos h]; rfl
    · next h => cases hexec; rw [if_neg h]; rfl
  | rngDraw =>
    cases hexec
    have hin : frcIn (withPorts q s) = frcIn s := congrArg (zextFrc s.frcTop) hfrc
    simp only [exec, execRngDraw, rngDraw, hin]
    rfl
  | _ => cases hexec; rfl

theorem hostStep_withPorts {q : Ports} {tw : Tw} {s t : State} (hfrc : q.frc = s.ports.frc)
    (hhost : hostStep tw s = .next t) : hostStep tw (withPorts q s) = .next (withPorts q t) := by
  unfold hostStep at hhost ⊢
  cases hdec : decode tw with
  | instr i =>
    rw [hdec] at hhost
    exact exec_withPorts hfrc hhost
  | error e =>
    rw [hdec] at hhost
    cases hhost
    rfl

theorem hostPhase_withPorts {q : Ports} {s t : State} (hsame : SameHostInputs s.ports q)
    (hhost : hostPhase s = .next t) : hostPhase (withPorts q s) = .next (withPorts q t) := by
  obtain ⟨hvalid, htw, hfrc⟩ := hsame
  unfold hostPhase at hhost ⊢
  rw [withPorts_ports, hvalid, htw]
  split
  · next h =>
    rw [if_pos h] at hhost
    exact hostStep_withPorts hfrc hhost
  · next h =>
    rw [if_neg h] at hhost
    cases hhost
    rfl

/-! ### The cycle -/

theorem beforeHost_cons (p : Ports) (rest : List Ports) (s : State) :
    beforeHost { s with script := p :: rest } = samplePhase (tickPhase (withPorts p { s with script := rest })) := rfl

/-- When two cycles' inputs are the same to HostStep and to reset, and what stands before HostStep differs in the ports
alone, the cycles do the same. -/
theorem step_of_sameHostInputs {p q : Ports} {s : State} {rest : List Ports} (hrst : q.rst = p.rst)
    (hsame : SameHostInputs p q)
    (hbefore : beforeHost { s with script := q :: rest } = withPorts q (beforeHost { s with script := p :: rest })) :
    ∃ t, step { s with script := p :: rest } = .next t ∧
      step { s with script := q :: rest } = .next (withPorts q t) := by
  cases hp : p.rst with
  | true =>
    have hq : q.rst = true := hrst.trans hp
    refine ⟨resetStep { s with ports := p, script := rest }, ?_, ?_⟩
    · simp [step, cycle, takeInputs_cons, hp]
    · simp [step, cycle, takeInputs_cons, hq, resetStep, withPorts]
  | false =>
    obtain ⟨t, ht⟩ := step_eq_next { s with script := p :: rest }
    refine ⟨t, ht, ?_⟩
    rw [step_of_not_rst (show (takeInputs { s with script := p :: rest }).ports.rst = false from hp)] at ht
    rw [step_of_not_rst (show (takeInputs { s with script := q :: rest }).ports.rst = false from hrst.trans hp),
      hbefore]
    exact hostPhase_withPorts (by rwa [beforeHost_ports]) ht

/-- Settles O36: TickStep drops an Idle engine's tick and SampleStep a sample without a wait, and the rest of the cycle
reads neither strobe. -/
theorem strobesAreLostWhileIdle : Obligations.StrobesAreLostWhileIdle := by
  intro s p rest
  constructor
  · intro hidle
    refine step_of_sameHostInputs rfl ⟨rfl, rfl, rfl⟩ ?_
    have hdrop (q : Ports) : tickPhase (withPorts q { s with script := rest }) = withPorts q { s with script := rest } :=
      tickPhase_of_idle hidle
    rw [beforeHost_cons, beforeHost_cons, hdrop, hdrop]
    exact samplePhase_withPorts (s := withPorts { p with tick := true } { s with script := rest }) rfl rfl
  · intro hfree
    refine step_of_sameHostInputs rfl ⟨rfl, rfl, rfl⟩ ?_
    have hdrop (q : Ports) : samplePhase (tickPhase (withPorts q { s with script := rest })) =
        tickPhase (withPorts q { s with script := rest }) :=
      samplePhase_of_not_busy ((tickPhase_debBusy _).trans hfree)
    rw [beforeHost_cons, beforeHost_cons, hdrop, hdrop]
    exact tickPhase_withPorts (s := withPorts { p with sampleStb := true } { s with script := rest }) rfl

end Sys2Proof.Machine
end

section
/-! SUPPORT. The staging registers belong to their writes (10_state.md R25, 42_tone_engine.md R178). -/
namespace Sys2Proof.Machine

/-- Each staging field is the old one, or the new value is what that field's write in the transaction carries. -/
abbrev StagingWrittenBy (w : Option Instr) (s t : State) : Prop :=
  (t.stgHp = s.stgHp ∨ w = some (.wrToneHp t.stgHp)) ∧ (t.stgCnt = s.stgCnt ∨ w = some (.wrToneCnt t.stgCnt)) ∧
  (t.stgStep = s.stgStep ∨ w = some (.wrSweepStep t.stgStep)) ∧
  (t.stgFloor = s.stgFloor ∨ w = some (.wrSweepFloor t.stgFloor))

theorem stagingWrittenBy_of_same (w : Option Instr) {s t : State} (h : SameStaging t s) : StagingWrittenBy w s t := by
  obtain ⟨hhp, hcnt, hstep, hfloor⟩ := h
  exact ⟨.inl hhp, .inl hcnt, .inl hstep, .inl hfloor⟩

/-- R178: each of the four staging writes carries the value it leaves; no other instruction touches the staging. -/
theorem exec_staging {i : Instr} {s t : State} (hexec : exec i s = .next t) : StagingWrittenBy (some i) s t := by
  rcases exec_cases i s with ⟨v, hv, -⟩ | ⟨e, he, -⟩ | ⟨u, hu, -, hwrite⟩
  · cases hexec.symm.trans hv
    exact stagingWrittenBy_of_same _ ⟨rfl, rfl, rfl, rfl⟩
  · cases hexec.symm.trans he
    exact stagingWrittenBy_of_same _ ⟨rfl, rfl, rfl, rfl⟩
  · cases hexec.symm.trans hu
    rcases hwrite with ⟨v, rfl, rfl⟩ | ⟨v, rfl, rfl⟩ | ⟨v, rfl, rfl⟩ | ⟨v, rfl, rfl⟩ | ⟨v, -, rfl⟩ | ⟨-, rfl⟩ |
      ⟨cb, -, -, rfl⟩ | ⟨-, rfl⟩ | ⟨n, -, -, rfl⟩ | ⟨-, rfl⟩ | ⟨-, rfl⟩
    · exact ⟨.inr rfl, .inl rfl, .inl rfl, .inl rfl⟩
    · exact ⟨.inl rfl, .inr rfl, .inl rfl, .inl rfl⟩
    · exact ⟨.inl rfl, .inl rfl, .inr rfl, .inl rfl⟩
    · exact ⟨.inl rfl, .inl rfl, .inl rfl, .inr rfl⟩
    all_goals exact stagingWrittenBy_of_same _ ⟨rfl, rfl, rfl, rfl⟩

/-- What stands before HostStep has the staging of the state before the cycle (R178). -/
theorem beforeHost_sameStaging (s : State) : SameStaging (beforeHost s) s :=
  ⟨beforeHost_stgHp s, beforeHost_stgCnt s, beforeHost_stgStep s, beforeHost_stgFloor s⟩

/-- Settles O48: tick, sample and bus errors leave the staging alone, and of the instructions each write has its own. -/
theorem stagingChangesOnlyByItsWrites : Obligations.StagingChangesOnlyByItsWrites := by
  intro s t hstep hrst
  rcases step_cases s with ⟨hr, -⟩ | ⟨-, -, -, hs⟩ | ⟨-, -, e, -, -, hs⟩ | ⟨-, -, i, -, hi, hs⟩
  · exact absurd (hrst.symm.trans hr) (by decide)
  · cases hstep.symm.trans hs
    exact stagingWrittenBy_of_same _ (beforeHost_sameStaging s)
  · cases hstep.symm.trans hs
    exact stagingWrittenBy_of_same _ (beforeHost_sameStaging s)
  · rw [hi]
    simpa [StagingWrittenBy] using exec_staging (hs.symm.trans hstep)

end Sys2Proof.Machine
end

section
/-! SUPPORT. Reads (10_state.md R57, R59, 40_bus_access.md R111): what a read may change, and that a write is seen by the
read of its register in the next cycle. -/
namespace Sys2Proof.Machine

/-- R57: a read answers a value and nothing else, and the reply already on the bus has no part in that value. -/
theorem exec_read {i : Instr} (hread : i.isRead = true) (s : State) :
    ∃ v, exec i s = .next (replyRead v s) ∧ exec i (replyRead v s) = .next (replyRead v s) := by
  cases i with
  | rdId | rdStatus | rdErr | rdToneHp | rdToneCnt | rdSweepStep | rdSweepFloor | rdTeHp | rdTeRemain | rdTeCtrl
  | rdTeReload | rdDebResult | rdDebLeft | rdRngState | rdRngOut => exact ⟨_, rfl, rfl⟩
  | _ => cases hread

/-- Settles O23: a read's next state is the old one under a new reply. -/
theorem readsChangeOnlyTheReply : Obligations.ReadsChangeOnlyTheReply := by
  intro i s hread
  obtain ⟨v, hfirst, hagain⟩ := exec_read hread s
  exact ⟨replyRead v s, hfirst, rfl, hagain⟩

/-- R10, R110: a cycle without reset that presents an instruction ends with it. -/
theorem step_of_presented {s : State} {i : Instr} (hrst : (takeInputs s).ports.rst = false)
    (hpres : presented (takeInputs s).ports = some i) : step s = exec i (beforeHost s) := by
  rcases step_cases s with ⟨hr, -⟩ | ⟨-, -, hp, -⟩ | ⟨-, -, e, -, hp, -⟩ | ⟨-, -, j, -, hp, hs⟩
  · cases hrst.symm.trans hr
  · cases hpres.symm.trans hp
  · cases hpres.symm.trans hp
  · cases hpres.symm.trans hp
    exact hs

theorem takeInputs_ports_of_script {s : State} {p : Ports} {rest : List Ports} (hscript : s.script = p :: rest) :
    (takeInputs s).ports = p := by
  simp [takeInputs, hscript]

/-- R59: when the write `wr` leaves the state `u` and the next cycle's `rd` reads the register `reg`, two cycles leave on
the bus what `reg` shows after the second cycle's tick and sample. -/
theorem run_write_then_read (reg : State → Word) {s u : State} {p q : Ports} {rest : List Ports} {wr rd : Instr}
    {v : Word} (hscript : s.script = p :: q :: rest) (hp : p.rst = false) (hq : q.rst = false)
    (hwr : presented p = some wr) (hrd : presented q = some rd) (hwrite : exec wr (beforeHost s) = .next u)
    (hkeep : u.script = (beforeHost s).script) (hread : ∀ r, exec rd r = .next (replyRead (reg r) r))
    (hreg : reg (beforeHost u) = v) :
    ∃ t, Host.Core.run core 2 s = .next t ∧ busRdata t = v ∧ busErr t = false := by
  have hports : (takeInputs s).ports = p := takeInputs_ports_of_script hscript
  have hports' : (takeInputs u).ports = q := takeInputs_ports_of_script (rest := rest) (by simp [hkeep, hscript])
  have hfirst : step s = .next u := by rw [step_of_presented (by rwa [hports]) (by rwa [hports]), hwrite]
  have hsecond : step u = .next (replyRead v (beforeHost u)) := by
    rw [step_of_presented (by rwa [hports']) (by rwa [hports']), hread, hreg]
  have hrun : runSteps 2 s = .next (replyRead v (beforeHost u)) := by
    simp only [runSteps_succ, hfirst, hsecond, onNext_next, runSteps_zero]
  exact ⟨_, hrun, rfl, rfl⟩

/-- Settles O26: neither strobe of the second cycle touches a writable register. -/
theorem readAfterWriteSeesTheWrite : Obligations.ReadAfterWriteSeesTheWrite := by
  intro s p q rest v w hscript hp hq
  refine ⟨?_, ?_, ?_, ?_, ?_⟩ <;> intro hwr hrd
  · exact run_write_then_read regToneHp hscript hp hq hwr hrd rfl rfl (fun _ => rfl) (by simp [regToneHp])
  · exact run_write_then_read regToneCnt hscript hp hq hwr hrd rfl rfl (fun _ => rfl) (by simp [regToneCnt])
  · exact run_write_then_read regSweepStep hscript hp hq hwr hrd rfl rfl (fun _ => rfl) (by simp [regSweepStep])
  · exact run_write_then_read regSweepFloor hscript hp hq hwr hrd rfl rfl (fun _ => rfl) (by simp [regSweepFloor])
  · exact run_write_then_read regRngState hscript hp hq hwr hrd rfl rfl (fun _ => rfl) (by simp [regRngState])

end Sys2Proof.Machine
end

section
/-! SUPPORT. The engine and the debouncer change only by their own events (10_state.md R58, R176, R254). Each lemma
compares with a state `r` that agreed before, so that an operation of another unit hands the agreement on. -/
namespace Sys2Proof.Machine

/-- In a cycle without reset, what holds before HostStep, and is about nothing that a reply without data or a bus error
writes, holds after the cycle if the presented instruction keeps it. -/
theorem step_keeps_of_exec {P : State → Prop} {s t : State} (hstep : step s = .next t)
    (hrst : (takeInputs s).ports.rst = false) (hbefore : P (beforeHost s)) (hreply : ∀ u, P u → P (replyZero u))
    (herror : ∀ e u, P u → P (raiseBusError e u))
    (hexec : ∀ i, presented (takeInputs s).ports = some i → exec i (beforeHost s) = .next t → P t) : P t := by
  rcases step_cases s with ⟨hr, -⟩ | ⟨-, -, -, hs⟩ | ⟨-, -, e, -, -, hs⟩ | ⟨-, -, i, -, hi, hs⟩
  · cases hrst.symm.trans hr
  · cases hstep.symm.trans hs
    exact hreply _ hbefore
  · cases hstep.symm.trans hs
    exact herror e _ hbefore
  · exact hexec i hi (hs.symm.trans hstep)

/-! ### The Tone Engine -/

/-- R170: without a tick, what stands before HostStep has the engine of the state before the cycle. -/
theorem beforeHost_sameEngine {s : State} (htick : (takeInputs s).ports.tick = false) : SameEngine (beforeHost s) s := by
  simp [SameEngine, tickPhase, htick]

/-- R58: of the instructions only TONE_STOP and an accepted TONE_START write the engine. -/
theorem exec_sameEngine {i : Instr} {r s t : State} (hexec : exec i s = .next t) (hstop : i ≠ .toneStop)
    (hstart : (∀ cb, i ≠ .toneStart cb) ∨ t.busErrQ = true) (h : SameEngine s r) : SameEngine t r := by
  rcases exec_cases i s with ⟨v, hv, -⟩ | ⟨e, he, -⟩ | ⟨u, hu, -, hwrite⟩
  · cases hexec.symm.trans hv
    exact h
  · cases hexec.symm.trans he
    exact h
  · cases hexec.symm.trans hu
    rcases hwrite with ⟨v, -, rfl⟩ | ⟨v, -, rfl⟩ | ⟨v, -, rfl⟩ | ⟨v, -, rfl⟩ | ⟨v, -, rfl⟩ | ⟨-, rfl⟩ |
      ⟨cb, hi, -, -⟩ | ⟨hi, -⟩ | ⟨n, -, -, rfl⟩ | ⟨-, rfl⟩ | ⟨-, rfl⟩
    iterate 6 exact h
    · exact hstart.elim (fun hno => absurd hi (hno cb)) nofun
    · exact absurd hi hstop
    all_goals exact h

/-- Settles O47: without tick and reset only the presented instruction can reach the engine. -/
theorem engineChangesOnlyByItsEvents : Obligations.EngineChangesOnlyByItsEvents := by
  intro s t hstep hrst htick hstop hstart
  refine step_keeps_of_exec (P := (SameEngine · s)) hstep hrst (beforeHost_sameEngine htick) (fun _ h => h)
    (fun _ _ h => h) fun i hi hexec => ?_
  rw [hi] at hstop hstart
  exact exec_sameEngine hexec (by simpa using hstop) (by simpa using hstart) (beforeHost_sameEngine htick)

/-! ### The debouncer -/

/-- R131: without a sample, what stands before HostStep has the wait of the state before the cycle. -/
theorem beforeHost_sameWait {s : State} (hsample : (takeInputs s).ports.sampleStb = false) :
    SameWait (beforeHost s) s := by
  simp [SameWait, beforeHost, samplePhase, hsample]

/-- R58: of the instructions only an accepted DEB_START writes the wait. -/
theorem exec_sameWait {i : Instr} {r s t : State} (hexec : exec i s = .next t)
    (hstart : (∀ n, i ≠ .debStart n) ∨ t.busErrQ = true) (h : SameWait s r) : SameWait t r := by
  rcases exec_cases i s with ⟨v, hv, -⟩ | ⟨e, he, -⟩ | ⟨u, hu, -, hwrite⟩
  · cases hexec.symm.trans hv
    exact h
  · cases hexec.symm.trans he
    exact h
  · cases hexec.symm.trans hu
    rcases hwrite with ⟨v, -, rfl⟩ | ⟨v, -, rfl⟩ | ⟨v, -, rfl⟩ | ⟨v, -, rfl⟩ | ⟨v, -, rfl⟩ | ⟨-, rfl⟩ |
      ⟨cb, -, -, rfl⟩ | ⟨-, rfl⟩ | ⟨n, hi, -, -⟩ | ⟨-, rfl⟩ | ⟨-, rfl⟩
    iterate 8 exact h
    · exact hstart.elim (fun hno => absurd hi (hno n)) nofun
    all_goals exact h

/-- Settles O49: without sample and reset only the presented instruction can reach the wait. -/
theorem debouncerChangesOnlyByItsEvents : Obligations.DebouncerChangesOnlyByItsEvents := by
  intro s t hstep hrst hsample hstart
  refine step_keeps_of_exec (P := (SameWait · s)) hstep hrst (beforeHost_sameWait hsample) (fun _ h => h)
    (fun _ _ h => h) fun i hi hexec => ?_
  rw [hi] at hstart
  exact exec_sameWait hexec (by simpa using hstart) (beforeHost_sameWait hsample)

end Sys2Proof.Machine
end

section
/-! SUPPORT. The encoder against the decoder (30_encoding.md R80 to R88): what each part of the decoder accepts, and the
decoder of an encoded instruction. -/
namespace Sys2Proof

/-- Settles O4: the words are closed terms, so the decoder is evaluated on each of them. -/
theorem writtenOutWordsDecode : Obligations.WrittenOutWordsDecode := by
  unfold Obligations.WrittenOutWordsDecode
  decide

/-- A value whose bits from `len` up are 0 is its low `len` bits, zero-extended (R88). -/
theorem zero_append_low {w len : Nat} {x : BitVec (w + len)} (h : x.extractLsb' len w = 0#w) :
    0#w ++ x.extractLsb' 0 len = x := by
  rw [← h, BitVec.extractLsb'_append_extractLsb']

/-- A command word is its opcode and its payload (R82). -/
theorem cmd_eq_parts (data : Word) : cmdOp data ++ cmdPayload data = data :=
  BitVec.extractLsb'_append_extractLsb' (w := 4) (len := 28)

/-! ### What the parts of the decoder accept -/

/-- R81, R84: a staging write is accepted for the zero-extended values. -/
theorem decodeStaging_eq_instr_iff (mk : Half → Instr) (data : Word) (i : Instr) :
    decodeStaging mk data = .instr i ↔ ∃ v : Half, i = mk v ∧ data = 0#16 ++ v := by
  constructor
  · intro h
    obtain ⟨hhigh, ⟨⟩⟩ | ⟨-, ⟨⟩⟩ := ite_eq_iff.1 h
    exact ⟨_, rfl, (zero_append_low (w := 16) (len := 16) hhigh).symm⟩
  · rintro ⟨v, rfl, rfl⟩
    simp [decodeStaging]

/-- R87: a command without operand is accepted with payload 0. -/
theorem decodeNoOperand_eq_instr_iff (j : Instr) (pl : BitVec 28) (i : Instr) :
    decodeNoOperand j pl = .instr i ↔ i = j ∧ pl = 0#28 := by
  constructor
  · intro h
    obtain ⟨hzero, ⟨⟩⟩ | ⟨-, ⟨⟩⟩ := ite_eq_iff.1 h
    exact ⟨rfl, hzero⟩
  · rintro ⟨rfl, rfl⟩
    rfl

/-- R85: TONE_START is accepted for the zero-extended legal values of CB. -/
theorem decodeToneStart_eq_instr_iff (pl : BitVec 28) (i : Instr) :
    decodeToneStart pl = .instr i ↔ ∃ cb : BitVec 2, i = .toneStart cb ∧ cbLegal cb = true ∧ pl = 0#26 ++ cb := by
  constructor
  · intro h
    obtain ⟨⟨hhigh, hcb⟩, ⟨⟩⟩ | ⟨-, ⟨⟩⟩ := ite_eq_iff.1 h
    exact ⟨_, rfl, hcb, (zero_append_low (w := 26) (len := 2) hhigh).symm⟩
  · rintro ⟨cb, rfl, hcb, rfl⟩
    have hhigh : BitVec.extractLsb' (n := 28) 2 26 (0#26 ++ cb) = 0#26 := BitVec.extractLsb'_append_eq_left
    have hlow : BitVec.extractLsb' (n := 28) 0 2 (0#26 ++ cb) = cb := BitVec.extractLsb'_append_eq_right
    simp [decodeToneStart, hhigh, hlow, hcb]

/-- R86: DEB_START is accepted for the zero-extended values of TIMEOUT. -/
theorem decodeDebStart_eq_instr_iff (pl : BitVec 28) (i : Instr) :
    decodeDebStart pl = .instr i ↔ ∃ v : Half, i = .debStart v ∧ pl = 0#12 ++ v := by
  constructor
  · intro h
    obtain ⟨hhigh, ⟨⟩⟩ | ⟨-, ⟨⟩⟩ := ite_eq_iff.1 h
    exact ⟨_, rfl, (zero_append_low (w := 12) (len := 16) hhigh).symm⟩
  · rintro ⟨v, rfl, rfl⟩
    have hhigh : BitVec.extractLsb' (n := 28) 16 12 (0#12 ++ v) = 0#12 := BitVec.extractLsb'_append_eq_left
    have hlow : BitVec.extractLsb' (n := 28) 0 16 (0#12 ++ v) = v := BitVec.extractLsb'_append_eq_right
    simp [decodeDebStart, hhigh, hlow]

/-! ### Decoding what was encoded -/

/-- The offsets of the sixteen registers: aligned and below 0x40 (R50). -/
abbrev IsRegister (addr : Offset) : Prop := addr.extractLsb' 0 2 = 0#2 ∧ ¬ 0x40#8 ≤ addr

theorem decode_readWord {addr : Offset} (haddr : IsRegister addr) : decode (readWord addr) = decodeRead addr := by
  rw [readWord, decode_append _ _ _ haddr.1 haddr.2]
  rfl

theorem decode_writeWord {addr : Offset} (haddr : IsRegister addr) (data : Word) :
    decode (writeWord addr data) = decodeWrite addr data := by
  rw [writeWord, decode_append _ _ _ haddr.1 haddr.2]
  rfl

theorem decode_cmdWord (op : BitVec 4) (pl : BitVec 28) : decode (cmdWord op pl) = decodeCmd (op ++ pl) :=
  decode_writeWord (by decide) _

/-- Settles O1: a read's or a command's word without operand is a closed term; a word with an operand goes to the part
of the decoder that accepts it at that operand. -/
theorem decodeEncodeRoundTrip : Obligations.DecodeEncodeRoundTrip := by
  intro i hwf
  cases i with
  | wrToneHp v | wrToneCnt v | wrSweepStep v | wrSweepFloor v =>
    exact (decode_writeWord (by decide) _).trans ((decodeStaging_eq_instr_iff _ _ _).2 ⟨v, rfl, rfl⟩)
  | wrRngState seed => exact decode_writeWord (by decide) seed
  | toneStart cb =>
    rw [encode, decode_cmdWord]
    simp only [decodeCmd, cmdOp_append, cmdPayload_append]
    exact (decodeToneStart_eq_instr_iff _ _).2 ⟨cb, rfl, hwf, rfl⟩
  | debStart v =>
    rw [encode, decode_cmdWord]
    simp only [decodeCmd, cmdOp_append, cmdPayload_append]
    exact (decodeDebStart_eq_instr_iff _ _).2 ⟨v, rfl, rfl⟩
  | _ => decide

end Sys2Proof
end

section
/-! SUPPORT. The decoder against the rows of opcode_table.json (30_encoding.md R81): an instruction is decoded from its
encoder's word and from no other, but for the DATA bits of a read. -/
namespace Sys2Proof

/-! ### Whatever is decoded encodes to the word it came from -/

/-- R81, R53: a read's address is that of its encoding. -/
theorem encode_of_decodeRead {addr : Offset} {i : Instr} (h : decodeRead addr = .instr i) :
    i.WellFormed ∧ encode i = readWord addr := by
  unfold decodeRead at h
  iterate 16
    rw [ite_eq_iff] at h
    rcases h with ⟨rfl, hrow⟩ | ⟨-, h⟩
    · cases hrow <;> exact ⟨rfl, rfl⟩
  cases h

/-- R87: a command without operand is the encoding of its instruction. -/
theorem encode_of_decodeNoOperand {op : BitVec 4} {pl : BitVec 28} {i j : Instr}
    (h : decodeNoOperand j pl = .instr i) (hj : j.WellFormed) (henc : encode j = cmdWord op 0#28) :
    i.WellFormed ∧ encode i = cmdWord op pl := by
  obtain ⟨rfl, rfl⟩ := (decodeNoOperand_eq_instr_iff _ _ _).1 h
  exact ⟨hj, henc⟩

/-- R82 to R87: a command word is the encoding of the command read from it. -/
theorem encode_of_decodeCmd {op : BitVec 4} {pl : BitVec 28} {i : Instr} (h : decodeCmd (op ++ pl) = .instr i) :
    i.WellFormed ∧ encode i = cmdWord op pl := by
  simp only [decodeCmd, cmdOp_append, cmdPayload_append, ite_eq_iff] at h
  rcases h with ⟨rfl, hnop⟩ | ⟨-, ⟨rfl, htone⟩ | ⟨-, ⟨rfl, hstop⟩ | ⟨-, ⟨rfl, hdeb⟩ | ⟨-, ⟨rfl, hdraw⟩ |
    ⟨-, ⟨rfl, hclr⟩ | ⟨-, hill⟩⟩⟩⟩⟩⟩
  · exact encode_of_decodeNoOperand hnop rfl rfl
  · obtain ⟨cb, rfl, hcb, rfl⟩ := (decodeToneStart_eq_instr_iff _ _).1 htone
    exact ⟨hcb, rfl⟩
  · exact encode_of_decodeNoOperand hstop rfl rfl
  · obtain ⟨v, rfl, rfl⟩ := (decodeDebStart_eq_instr_iff _ _).1 hdeb
    exact ⟨rfl, rfl⟩
  · exact encode_of_decodeNoOperand hdraw rfl rfl
  · exact encode_of_decodeNoOperand hclr rfl rfl
  · cases hill

/-- R81, R84: an accepted staging write is the encoding of its instruction. -/
theorem encode_of_decodeStaging {addr : Offset} {mk : Half → Instr} {data : Word} {i : Instr}
    (h : decodeStaging mk data = .instr i) (hmk : ∀ v, (mk v).WellFormed)
    (henc : ∀ v, encode (mk v) = writeWord addr (0#16 ++ v)) : i.WellFormed ∧ encode i = writeWord addr data := by
  obtain ⟨v, rfl, rfl⟩ := (decodeStaging_eq_instr_iff _ _ _).1 h
  exact ⟨hmk v, henc v⟩

/-- R81: a written word is the encoding of the write or command read from it. -/
theorem encode_of_decodeWrite {addr : Offset} {data : Word} {i : Instr} (h : decodeWrite addr data = .instr i) :
    i.WellFormed ∧ encode i = writeWord addr data := by
  simp only [decodeWrite, ite_eq_iff] at h
  rcases h with ⟨rfl, hcmd⟩ | ⟨-, ⟨rfl, hhp⟩ | ⟨-, ⟨rfl, hcnt⟩ | ⟨-, ⟨rfl, hstep⟩ | ⟨-, ⟨rfl, hfloor⟩ |
    ⟨-, ⟨rfl, hseed⟩ | ⟨-, hro⟩⟩⟩⟩⟩⟩
  · rw [← cmd_eq_parts data] at hcmd ⊢
    exact encode_of_decodeCmd hcmd
  · exact encode_of_decodeStaging hhp (fun _ => rfl) fun _ => rfl
  · exact encode_of_decodeStaging hcnt (fun _ => rfl) fun _ => rfl
  · exact encode_of_decodeStaging hstep (fun _ => rfl) fun _ => rfl
  · exact encode_of_decodeStaging hfloor (fun _ => rfl) fun _ => rfl
  · cases hseed
    exact ⟨rfl, rfl⟩
  · cases hro

/-- The word with the ignored DATA of a read set to 0, as the encoder writes it (R80, R100). -/
def withoutReadData (tw : Tw) : Tw := if twWe tw then tw else readWord (twAddr tw)

theorem withoutReadData_of_write {tw : Tw} (hwe : twWe tw = true) : withoutReadData tw = tw := if_pos hwe

theorem withoutReadData_of_read {tw : Tw} (hwe : twWe tw = false) : withoutReadData tw = readWord (twAddr tw) := by
  simp [withoutReadData, hwe]

theorem writeWord_eq_of_write {tw : Tw} (hwe : twWe tw = true) : writeWord (twAddr tw) (twData tw) = tw := by
  have h := (tw_eq_parts tw).symm
  rwa [hwe] at h

theorem twAddr_readWord (addr : Offset) : twAddr (readWord addr) = addr := twAddr_append ..

theorem twWe_withoutReadData (tw : Tw) : twWe (withoutReadData tw) = twWe tw := by
  cases hwe : twWe tw with
  | true => rwa [withoutReadData_of_write hwe]
  | false =>
    rw [withoutReadData_of_read hwe]
    exact twWe_append ..

/-- R80: a read ignores DATA. -/
theorem decode_withoutReadData (tw : Tw) : decode (withoutReadData tw) = decode tw := by
  cases hwe : twWe tw with
  | true => rw [withoutReadData_of_write hwe]
  | false =>
    have hsame : twWe (readWord (twAddr tw)) = false := twWe_append ..
    rw [withoutReadData_of_read hwe]
    simp only [decode, twAddr_readWord, hwe, hsame, Bool.false_eq_true, if_false]

/-- The decoder on a word of a register: WE chooses between its two halves. -/
theorem decode_of_isRegister {tw : Tw} (haddr : IsRegister (twAddr tw)) :
    decode tw = if twWe tw then decodeWrite (twAddr tw) (twData tw) else decodeRead (twAddr tw) := by
  simp only [decode, haddr.1, haddr.2, ne_eq, not_true_eq_false, if_false]

/-- R81: only a word of a register is an instruction. -/
theorem isRegister_of_decode {tw : Tw} {i : Instr} (h : decode tw = .instr i) : IsRegister (twAddr tw) := by
  unfold decode at h
  split at h
  · cases h
  · split at h
    · cases h
    · next haligned hrange => exact ⟨not_not.1 haligned, hrange⟩

/-- R81: whatever is decoded is well-formed, and its encoding is the word it came from, but for the DATA of a read. -/
theorem encode_of_decode {tw : Tw} {i : Instr} (h : decode tw = .instr i) :
    i.WellFormed ∧ encode i = withoutReadData tw := by
  rw [decode_of_isRegister (isRegister_of_decode h)] at h
  cases hwe : twWe tw with
  | true =>
    rw [hwe] at h
    rw [withoutReadData_of_write hwe, ← writeWord_eq_of_write hwe]
    exact encode_of_decodeWrite h
  | false =>
    rw [hwe] at h
    rw [withoutReadData_of_read hwe]
    exact encode_of_decodeRead h

/-- The decoder inverts the encoder, but for the DATA of a read (R80, R81). -/
theorem decode_eq_instr_iff (tw : Tw) (i : Instr) :
    decode tw = .instr i ↔ i.WellFormed ∧ encode i = withoutReadData tw := by
  constructor
  · exact encode_of_decode
  · rintro ⟨hwf, henc⟩
    rw [← decode_withoutReadData, ← henc]
    exact decodeEncodeRoundTrip i hwf

/-! ### The rows of the table, by the encoder -/

theorem twWe_encode (i : Instr) : twWe (encode i) = !i.isRead := by
  cases i <;> exact twWe_append ..

/-- The mask of the rows that use WE and ADDR alone: every read's (R81). -/
def headMask : Tw := 0x1FF00000000

/-- R81: the row of a read is its address alone, which is also all that the encoder writes. -/
theorem row_of_isRead {i : Instr} (hread : i.isRead = true) : rowMask i = headMask ∧ rowMatch i = encode i := by
  cases i with
  | rdId | rdStatus | rdErr | rdToneHp | rdToneCnt | rdSweepStep | rdSweepFloor | rdTeHp | rdTeRemain | rdTeCtrl
  | rdTeReload | rdDebResult | rdDebLeft | rdRngState | rdRngOut => decide
  | _ => cases hread

theorem getLsbD_headMask : ∀ k : Fin 41, headMask.getLsbD k = decide (32 ≤ k.val) := by decide

theorem twWe_and_headMask (tw : Tw) : twWe (tw &&& headMask) = twWe tw := by
  have hbit : headMask.getLsbD 40 = true := by decide
  simp [twWe, hbit]

/-- Under the mask of the reads, a read's word keeps its address and nothing else. -/
theorem and_headMask_of_read {tw : Tw} (hwe : twWe tw = false) : tw &&& headMask = readWord (twAddr tw) := by
  apply BitVec.eq_of_getLsbD_eq
  intro k hk
  have hparts := tw_eq_parts tw
  rw [hwe] at hparts
  rw [BitVec.getLsbD_and, getLsbD_headMask ⟨k, hk⟩, readWord, getLsbD_twParts]
  conv_lhs => rw [hparts, getLsbD_twParts]
  by_cases hdata : k < 32
  · simp [hdata]
  · simp [hdata, Nat.le_of_not_lt hdata]

/-- A write of a word is its row's head with the word in the DATA bits. -/
theorem writeWord_eq_or (addr : Offset) (data : Word) :
    writeWord addr data = writeWord addr 0#32 ||| data.setWidth 41 := by
  apply BitVec.eq_of_getLsbD_eq
  intro k hk
  rw [BitVec.getLsbD_or, writeWord, writeWord, getLsbD_twParts, getLsbD_twParts, BitVec.getLsbD_setWidth]
  by_cases hdata : k < 32
  · simp [hdata, hk]
  · simp [hdata, BitVec.getLsbD_of_ge data k (by omega)]

/-- A command word is its row's head with the payload in place. -/
theorem cmdWord_eq_or (op : BitVec 4) (pl : BitVec 28) : cmdWord op pl = cmdWord op 0#28 ||| pl.setWidth 41 := by
  apply BitVec.eq_of_getLsbD_eq
  intro k hk
  rw [BitVec.getLsbD_or, cmdWord, cmdWord, writeWord, writeWord, getLsbD_twParts, getLsbD_twParts, getLsbD_cmdParts,
    getLsbD_cmdParts, BitVec.getLsbD_setWidth]
  by_cases hpl : k < 28
  · simp [hpl, hk, show k < 32 by omega]
  · simp [hpl, BitVec.getLsbD_of_ge pl k (by omega)]

/-- An operand in place is the same whichever field it was zero-extended to first. -/
theorem setWidth_zero_append {w n k : Nat} (v : BitVec n) : (0#w ++ v).setWidth k = v.setWidth k := by
  simp [BitVec.setWidth_append_eq_shiftLeft_setWidth_or]

/-- The encoder's word is the row's match word with the operand in place. -/
theorem encode_eq_row (i : Instr) : encode i = rowMatch i ||| rowOperand i := by
  cases i with
  | wrToneHp v | wrToneCnt v | wrSweepStep v | wrSweepFloor v =>
    exact (writeWord_eq_or _ _).trans (congrArg _ (setWidth_zero_append (w := 16) v))
  | wrRngState seed => exact writeWord_eq_or _ seed
  | toneStart cb => exact (cmdWord_eq_or _ _).trans (congrArg _ (setWidth_zero_append (w := 26) cb))
  | debStart v => exact (cmdWord_eq_or _ _).trans (congrArg _ (setWidth_zero_append (w := 12) v))
  | _ => decide

/-- The encoder's word lies in its row (R81): the model's laws of the rows, for every instruction. -/
theorem encode_and_rowMask {i : Instr} (hwf : i.WellFormed) : encode i &&& rowMask i = rowMatch i := by
  cases i with
  | wrToneHp v => exact Laws.RowMatch.wrToneHp v hwf
  | wrToneCnt v => exact Laws.RowMatch.wrToneCnt v hwf
  | wrSweepStep v => exact Laws.RowMatch.wrSweepStep v hwf
  | wrSweepFloor v => exact Laws.RowMatch.wrSweepFloor v hwf
  | wrRngState seed => exact Laws.RowMatch.wrRngState seed hwf
  | toneStart cb => exact Laws.RowMatch.toneStart cb hwf
  | debStart v => exact Laws.RowMatch.debStart v hwf
  | _ => decide

/-- Settles O2: a decoded word is the encoder's but for a read's DATA, and the encoder's word is the row's. -/
theorem decodeAcceptsExactlyTheRows : Obligations.DecodeAcceptsExactlyTheRows := by
  intro tw i
  rw [decode_eq_instr_iff]
  refine and_congr_right fun hwf => ?_
  cases hread : i.isRead with
  | true =>
    obtain ⟨hmask, hmatch⟩ := row_of_isRead hread
    rw [hmask, hmatch]
    constructor
    · intro henc
      have hwe : twWe tw = false := by rw [← twWe_withoutReadData, ← henc, twWe_encode, hread]; rfl
      exact ⟨by rw [and_headMask_of_read hwe, henc, withoutReadData_of_read hwe], nofun⟩
    · rintro ⟨hhead, -⟩
      have hwe : twWe tw = false := by rw [← twWe_and_headMask, hhead, twWe_encode, hread]; rfl
      rw [withoutReadData_of_read hwe, ← and_headMask_of_read hwe, hhead]
  | false =>
    rw [← encode_eq_row]
    constructor
    · intro henc
      have hwe : twWe tw = true := by rw [← twWe_withoutReadData, ← henc, twWe_encode, hread]; rfl
      rw [withoutReadData_of_write hwe] at henc
      exact ⟨henc ▸ encode_and_rowMask hwf, fun _ => henc.symm⟩
    · rintro ⟨-, hword⟩
      have hwe : twWe tw = true := by rw [hword rfl, twWe_encode, hread]; rfl
      rw [withoutReadData_of_write hwe, hword rfl]

end Sys2Proof
end

section
/-! SUPPORT. The words that are no rows of the opcode table (30_encoding.md R89): which bus error the decoder gives each
class, and the host step on it (60_exceptions.md R215). -/
namespace Sys2Proof

/-! ### The fields of a word as its bits -/

theorem cmdOp_twData (tw : Tw) : cmdOp (twData tw) = tw.extractLsb' 28 4 :=
  BitVec.extractLsb'_extractLsb'_of_le (by decide)

theorem cmdPayload_twData (tw : Tw) : cmdPayload (twData tw) = tw.extractLsb' 0 28 :=
  BitVec.extractLsb'_extractLsb'_of_le (by decide)

theorem cmdPayload_field (tw : Tw) {start len : Nat} (h : start + len ≤ 28) :
    (cmdPayload (twData tw)).extractLsb' start len = tw.extractLsb' start len := by
  rw [cmdPayload_twData, BitVec.extractLsb'_extractLsb'_of_le h]

theorem twData_high (tw : Tw) : (twData tw).extractLsb' 16 16 = tw.extractLsb' 16 16 :=
  BitVec.extractLsb'_extractLsb'_of_le (by decide)

/-! ### Addresses and directions -/

theorem decode_of_not_aligned {tw : Tw} (h : (twAddr tw).extractLsb' 0 2 ≠ 0#2) : decode tw = .error .align :=
  if_pos h

theorem decode_of_badAddr {tw : Tw} (haligned : (twAddr tw).extractLsb' 0 2 = 0#2) (hrange : 0x40#8 ≤ twAddr tw) :
    decode tw = .error .badAddr := by
  simp [decode, haligned, hrange]

/-- A write to one of some registers is what `decodeWrite` says of each of them. -/
theorem decode_of_write {tw : Tw} {regs : List Offset} {d : Decoded} (hwe : twWe tw = true) (hmem : twAddr tw ∈ regs)
    (hregs : ∀ a ∈ regs, IsRegister a) (hwrite : ∀ a ∈ regs, decodeWrite a (twData tw) = d) : decode tw = d := by
  rw [decode_of_isRegister (hregs _ hmem), hwe]
  exact hwrite _ hmem

theorem decodeWrite_of_readOnly (data : Word) : ∀ a ∈ Machine.roSet, decodeWrite a data = .error .roWrite := by
  simp [Machine.roSet, decodeWrite]

theorem decodeWrite_of_wideStaging {data : Word} (hhigh : data.extractLsb' 16 16 ≠ 0#16) :
    ∀ a ∈ Machine.stagingSet, decodeWrite a data = .error .rsvBits := by
  simp [Machine.stagingSet, decodeWrite, decodeStaging, hhigh]

theorem decode_of_readCmd {tw : Tw} (hwe : twWe tw = false) (haddr : twAddr tw = 0x04) :
    decode tw = .error .woRead := by
  rw [decode_of_isRegister (by rw [haddr]; decide), hwe, haddr]
  rfl

/-! ### Commands -/

theorem decode_of_writeCmd {tw : Tw} (hwe : twWe tw = true) (haddr : twAddr tw = 0x04) :
    decode tw = decodeCmd (twData tw) :=
  decode_of_write (regs := [0x04]) hwe (by simp [haddr]) (by decide) (by simp [decodeWrite])

theorem decodeCmd_of_illOp {data : Word} (hlow : 0x5#4 ≤ cmdOp data) (hhigh : cmdOp data ≤ 0xE#4) :
    decodeCmd data = .error .illOp := by
  have hno : ∀ op : BitVec 4, 0x5#4 ≤ op → op ≤ 0xE#4 → op ∉ [0x0#4, 0x1#4, 0x2#4, 0x3#4, 0x4#4, 0xF#4] := by
    decide
  have hop := hno _ hlow hhigh
  simp only [List.mem_cons, List.not_mem_nil, or_false, not_or] at hop
  obtain ⟨h0, h1, h2, h3, h4, hF⟩ := hop
  simp [decodeCmd, h0, h1, h2, h3, h4, hF]

/-- R87: a command without operand is refused with any other payload than 0. -/
theorem decodeCmd_of_payload {data : Word} (hop : cmdOp data ∈ [0x0#4, 0x2, 0x4, 0xF])
    (hpl : cmdPayload data ≠ 0#28) : decodeCmd data = .error .rsvBits := by
  simp only [List.mem_cons, List.not_mem_nil, or_false] at hop
  rcases hop with hop | hop | hop | hop <;> simp [decodeCmd, decodeNoOperand, hop, hpl]

/-- R85, R84: TONE_START is refused for a reserved bit and for a reserved CB. -/
theorem decodeCmd_of_toneStart {data : Word} (hop : cmdOp data = 0x1)
    (hrsv : (cmdPayload data).extractLsb' 2 26 ≠ 0#26 ∨ 2#2 ≤ (cmdPayload data).extractLsb' 0 2) :
    decodeCmd data = .error .rsvBits := by
  have hreserved : ∀ cb : BitVec 2, 2#2 ≤ cb → ¬ cbLegal cb = true := by decide
  have hrefused : decodeToneStart (cmdPayload data) = .error .rsvBits :=
    if_neg fun ⟨hhigh, hcb⟩ => hrsv.elim (absurd hhigh) fun hge => hreserved _ hge hcb
  simpa [decodeCmd, hop] using hrefused

/-- R86, R84: DEB_START is refused for a reserved bit. -/
theorem decodeCmd_of_debStart {data : Word} (hop : cmdOp data = 0x3)
    (hrsv : (cmdPayload data).extractLsb' 16 12 ≠ 0#12) : decodeCmd data = .error .rsvBits := by
  simp [decodeCmd, decodeDebStart, hop, hrsv]

/-! ### The host step -/

namespace Machine

/-- R110, R215: a word that is no row raises its bus error. -/
theorem hostStep_of_decode_error {tw : Tw} {e : BusError} (hdec : decode tw = .error e) (s : State) :
    hostStep tw s = .next (raiseBusError e s) := by
  simp [hostStep, hdec]

/-- Settles O3: each class of R89 is decoded to its bus error, which HostStep raises. -/
theorem illegalWordsRaiseTheirError : Obligations.IllegalWordsRaiseTheirError := by
  intro tw s raises we addr op
  have hraises (e : BusError) (hdec : decode tw = .error e) : raises e.code := hostStep_of_decode_error hdec s
  have hbits : cmdOp (twData tw) = op := cmdOp_twData tw
  have hcmd {e : BusError} (hwe : twWe tw = true) (haddr : twAddr tw = 0x04)
      (hdec : decodeCmd (twData tw) = .error e) : decode tw = .error e := (decode_of_writeCmd hwe haddr).trans hdec
  refine ⟨fun h => ?align, fun haligned hrange _ => ?badAddr, fun hwe hmem => ?roWrite, fun hwe haddr => ?woRead,
    fun hwe hmem hhigh => ?staging, fun hwe haddr hlow hhigh => ?illOp, fun hwe haddr hop hpl => ?payload,
    fun hwe haddr hop hrsv => ?toneStart, fun hwe haddr hop hrsv => ?debStart⟩
  case align => exact hraises .align (decode_of_not_aligned h)
  case badAddr => exact hraises .badAddr (decode_of_badAddr haligned hrange)
  case roWrite => exact hraises .roWrite (decode_of_write hwe hmem (by decide) (decodeWrite_of_readOnly _))
  case woRead => exact hraises .woRead (decode_of_readCmd hwe haddr)
  case staging =>
    rw [← twData_high] at hhigh
    exact hraises .rsvBits (decode_of_write hwe hmem (by decide) (decodeWrite_of_wideStaging hhigh))
  case illOp =>
    rw [← hbits] at hlow hhigh
    exact hraises .illOp (hcmd hwe haddr (decodeCmd_of_illOp hlow hhigh))
  case payload =>
    rw [← hbits] at hop
    rw [← cmdPayload_twData] at hpl
    exact hraises .rsvBits (hcmd hwe haddr (decodeCmd_of_payload hop hpl))
  case toneStart =>
    rw [← hbits] at hop
    rw [← cmdPayload_field tw (by decide), ← cmdPayload_field tw (by decide)] at hrsv
    exact hraises .rsvBits (hcmd hwe haddr (decodeCmd_of_toneStart hop hrsv))
  case debStart =>
    rw [← hbits] at hop
    rw [← cmdPayload_field tw (by decide)] at hrsv
    exact hraises .rsvBits (hcmd hwe haddr (decodeCmd_of_debStart hop hrsv))

end Machine
end Sys2Proof
end

section
/-! SUPPORT. HostStep's pseudocode (40_bus_access.md R110, 60_exceptions.md R212) against the decoder and the meanings:
the code `check` gives for each class of words, and that HostStep answers with the same. -/
namespace Sys2Proof.Machine

/-! ### The pseudocode's three answers -/

/-- `Check` on a transaction word (R212). -/
abbrev checkTw (s : State) (tw : Tw) : BitVec 4 := check s (twWe tw) (twAddr tw) (twData tw)

/-- HostStep does on this word and state what its pseudocode does (R110). -/
abbrev FollowsRule (tw : Tw) (s : State) : Prop := hostStep tw s = .next (hostStepRule s tw)

variable {s : State} {tw : Tw}

/-- R215: where HostStep raises the error whose code `Check` gives. -/
theorem followsRule_of_raise {e : BusError} (hstep : hostStep tw s = .next (raiseBusError e s))
    (hcheck : checkTw s tw = e.code) : FollowsRule tw s := by
  have hrule : hostStepRule s tw = raiseBusError e s := by simp [hostStepRule, raiseBusError, hcheck]
  rw [FollowsRule, hrule, hstep]

/-- R111: where HostStep answers a read and `Check` gives no error. -/
theorem followsRule_of_read (hstep : hostStep tw s = .next (replyRead (readReg s (twAddr tw)) s))
    (hcheck : checkTw s tw = 0#4) (hwe : twWe tw = false) : FollowsRule tw s := by
  have hrule : hostStepRule s tw = replyRead (readReg s (twAddr tw)) s := by
    rw [checkTw, hwe] at hcheck
    simp [hostStepRule, replyRead, hcheck, hwe]
  rw [FollowsRule, hrule, hstep]

/-- R110: where HostStep performs a write and `Check` gives no error. -/
theorem followsRule_of_write (hstep : hostStep tw s = .next (replyZero (perform s (twAddr tw) (twData tw))))
    (hcheck : checkTw s tw = 0#4) (hwe : twWe tw = true) : FollowsRule tw s := by
  have hrule : hostStepRule s tw = replyZero (perform s (twAddr tw) (twData tw)) := by
    rw [checkTw, hwe] at hcheck
    simp [hostStepRule, replyZero, hcheck, hwe]
  rw [FollowsRule, hrule, hstep]

/-! ### Addresses -/

/-- A register is read-only, a staging register, CMD or RNG_STATE (R53). -/
theorem register_cases : ∀ addr : Offset, IsRegister addr →
    addr ∈ roSet ∨ addr ∈ stagingSet ∨ addr = 0x04 ∨ addr = 0x38 := by decide

/-- R212 on a read of a register: only CMD cannot be read. -/
theorem check_of_read {addr : Offset} (haddr : IsRegister addr) (s : State) (data : Word) :
    check s false addr data = if addr = 0x04 then BusError.woRead.code else 0#4 := by
  simp [check, haddr.1, haddr.2, BusError.code]

/-- R212 on a write to a register. -/
theorem check_of_write {addr : Offset} (haddr : IsRegister addr) (s : State) (data : Word) :
    check s true addr data =
      if addr ∈ roSet then BusError.roWrite.code
      else if addr ∈ stagingSet ∧ data.extractLsb' 16 16 ≠ 0#16 then BusError.rsvBits.code
      else if addr ≠ 0x04 then 0#4
      else checkCmd s (cmdOp data) (cmdPayload data) := by
  simp [check, haddr.1, haddr.2, BusError.code]

/-! ### Reads -/

/-- R111: a readable register's offset is decoded to the read that answers its value. -/
theorem exec_of_decodeRead {addr : Offset} (haddr : IsRegister addr) (hcmd : addr ≠ 0x04) (s : State) :
    ∃ i, decodeRead addr = .instr i ∧ exec i s = .next (replyRead (readReg s addr) s) := by
  rcases register_cases addr haddr with h | h | rfl | rfl
  · simp only [roSet, List.mem_cons, List.not_mem_nil, or_false] at h
    rcases h with rfl | rfl | rfl | rfl | rfl | rfl | rfl | rfl | rfl | rfl <;> exact ⟨_, rfl, rfl⟩
  · simp only [stagingSet, List.mem_cons, List.not_mem_nil, or_false] at h
    rcases h with rfl | rfl | rfl | rfl <;> exact ⟨_, rfl, rfl⟩
  · exact absurd rfl hcmd
  · exact ⟨_, rfl, rfl⟩

theorem followsRule_of_register_read (haddr : IsRegister (twAddr tw)) (hwe : twWe tw = false) : FollowsRule tw s := by
  by_cases hcmd : twAddr tw = 0x04
  · exact followsRule_of_raise (hostStep_of_decode_error (decode_of_readCmd hwe hcmd) s)
      (by rw [checkTw, hwe, check_of_read haddr, if_pos hcmd])
  · obtain ⟨i, hdec, hexec⟩ := exec_of_decodeRead haddr hcmd s
    have hinstr : decode tw = .instr i := by
      rw [decode_of_isRegister haddr, hwe]
      exact hdec
    exact followsRule_of_read ((hostStep_of_decode_instr hinstr s).trans hexec)
      (by rw [checkTw, hwe, check_of_read haddr, if_neg hcmd]) hwe

/-! ### Commands -/

/-- A command's opcode is illegal or one of the six of R83. -/
theorem op_cases : ∀ op : BitVec 4,
    (0x5#4 ≤ op ∧ op ≤ 0xE#4) ∨ op ∈ [0x0#4, 0x2, 0x4, 0xF] ∨ op = 0x1 ∨ op = 0x3 := by decide

theorem checkCmd_of_illOp {op : BitVec 4} (hop : 0x5#4 ≤ op ∧ op ≤ 0xE#4) (s : State) (pl : BitVec 28) :
    checkCmd s op pl = BusError.illOp.code :=
  if_pos hop

/-- R87, R212: a command without operand is checked for its payload alone. -/
theorem checkCmd_of_noOperand {op : BitVec 4} (hop : op ∈ [0x0#4, 0x2, 0x4, 0xF]) (s : State) (pl : BitVec 28) :
    checkCmd s op pl = if pl ≠ 0#28 then BusError.rsvBits.code else 0#4 := by
  simp only [List.mem_cons, List.not_mem_nil, or_false] at hop
  rcases hop with rfl | rfl | rfl | rfl <;> simp [checkCmd, BusError.code]

/-- R85: of the four values of CB, 2 and 3 are reserved. -/
theorem cbLegal_of_not_reserved : ∀ cb : BitVec 2, ¬ 2#2 ≤ cb → cbLegal cb = true := by decide

/-- R150, R212: TONE_START is checked for its reserved bits, then as its meaning checks the state. -/
theorem checkCmd_of_toneStart (s : State) (pl : BitVec 28) :
    checkCmd s 0x1 pl =
      if pl.extractLsb' 2 26 ≠ 0#26 ∨ 2#2 ≤ pl.extractLsb' 0 2 then BusError.rsvBits.code
      else (toneStartError (pl.extractLsb' 0 2) s).elim 0#4 BusError.code := by
  by_cases hrsv : pl.extractLsb' 2 26 ≠ 0#26 ∨ 2#2 ≤ pl.extractLsb' 0 2
  · rw [if_pos hrsv]
    simp [checkCmd, hrsv, BusError.code]
  · have hcb := cbLegal_of_not_reserved _ fun hge => hrsv (.inr hge)
    rw [if_neg hrsv, toneStartError, if_neg (by simp [hcb])]
    simp [checkCmd, hrsv, apply_ite (Option.elim · 0#4 BusError.code), BusError.code]

/-- R130, R212: DEB_START is checked for its reserved bits, then for a wait in progress. -/
theorem checkCmd_of_debStart (s : State) (pl : BitVec 28) :
    checkCmd s 0x3 pl =
      if pl.extractLsb' 16 12 ≠ 0#12 then BusError.rsvBits.code
      else if s.debBusy = true then BusError.debBusy.code else 0#4 := by
  simp [checkCmd, BusError.code]

/-- R87: an accepted command without operand is decoded to the one `performCmd` performs. -/
theorem exec_of_noOperand {data : Word} (hop : cmdOp data ∈ [0x0#4, 0x2, 0x4, 0xF]) (hpl : cmdPayload data = 0#28)
    (s : State) : ∃ i, decodeCmd data = .instr i ∧
      exec i s = .next (replyZero (performCmd s (cmdOp data) (cmdPayload data))) := by
  simp only [List.mem_cons, List.not_mem_nil, or_false] at hop
  rw [decodeCmd, hpl]
  rcases hop with hop | hop | hop | hop <;> rw [hop] <;> exact ⟨_, rfl, rfl⟩

/-- R85: a TONE_START word without reserved bits is decoded to its CB's instruction. -/
theorem decodeCmd_of_legal_toneStart {data : Word} (hop : cmdOp data = 0x1)
    (hrsv : ¬((cmdPayload data).extractLsb' 2 26 ≠ 0#26 ∨ 2#2 ≤ (cmdPayload data).extractLsb' 0 2)) :
    decodeCmd data = .instr (.toneStart ((cmdPayload data).extractLsb' 0 2)) := by
  obtain ⟨hhigh, hcb⟩ := not_or.1 hrsv
  simp [decodeCmd, hop, decodeToneStart, not_not.1 hhigh, cbLegal_of_not_reserved _ hcb]

/-- R86: a DEB_START word without reserved bits is decoded to its TIMEOUT's instruction. -/
theorem decodeCmd_of_legal_debStart {data : Word} (hop : cmdOp data = 0x3)
    (hrsv : (cmdPayload data).extractLsb' 16 12 = 0#12) :
    decodeCmd data = .instr (.debStart ((cmdPayload data).extractLsb' 0 16)) := by
  simp [decodeCmd, hop, decodeDebStart, hrsv]

section
variable (hwe : twWe tw = true) (haddr : twAddr tw = 0x04)
include hwe haddr

theorem checkTw_of_writeCmd : checkTw s tw = checkCmd s (cmdOp (twData tw)) (cmdPayload (twData tw)) := by
  rw [checkTw, hwe, haddr, check_of_write (by decide)]
  simp [roSet, stagingSet]

/-- A refused command word. -/
theorem followsRule_of_cmd_error {e : BusError} (hdec : decodeCmd (twData tw) = .error e)
    (hcheck : checkCmd s (cmdOp (twData tw)) (cmdPayload (twData tw)) = e.code) : FollowsRule tw s :=
  followsRule_of_raise (hostStep_of_decode_error ((decode_of_writeCmd hwe haddr).trans hdec) s)
    ((checkTw_of_writeCmd hwe haddr).trans hcheck)

/-- A command that its state refuses. -/
theorem followsRule_of_cmd_raise {i : Instr} {e : BusError} (hdec : decodeCmd (twData tw) = .instr i)
    (hexec : exec i s = .next (raiseBusError e s))
    (hcheck : checkCmd s (cmdOp (twData tw)) (cmdPayload (twData tw)) = e.code) : FollowsRule tw s :=
  followsRule_of_raise ((hostStep_of_decode_instr ((decode_of_writeCmd hwe haddr).trans hdec) s).trans hexec)
    ((checkTw_of_writeCmd hwe haddr).trans hcheck)

/-- An accepted command. -/
theorem followsRule_of_cmd_perform {i : Instr} (hdec : decodeCmd (twData tw) = .instr i)
    (hexec : exec i s = .next (replyZero (performCmd s (cmdOp (twData tw)) (cmdPayload (twData tw)))))
    (hcheck : checkCmd s (cmdOp (twData tw)) (cmdPayload (twData tw)) = 0#4) : FollowsRule tw s := by
  have hperform : perform s (twAddr tw) (twData tw) = performCmd s (cmdOp (twData tw)) (cmdPayload (twData tw)) := by
    rw [haddr]
    rfl
  rw [← hperform] at hexec
  exact followsRule_of_write ((hostStep_of_decode_instr ((decode_of_writeCmd hwe haddr).trans hdec) s).trans hexec)
    ((checkTw_of_writeCmd hwe haddr).trans hcheck) hwe

theorem followsRule_of_toneStart (hop : cmdOp (twData tw) = 0x1) : FollowsRule tw s := by
  have hcheck := checkCmd_of_toneStart s (cmdPayload (twData tw))
  rw [← hop] at hcheck
  split_ifs at hcheck with hrsv
  · exact followsRule_of_cmd_error hwe haddr (decodeCmd_of_toneStart hop hrsv) hcheck
  · have hdec := decodeCmd_of_legal_toneStart hop hrsv
    cases herr : toneStartError ((cmdPayload (twData tw)).extractLsb' 0 2) s with
    | some e =>
      rw [herr] at hcheck
      exact followsRule_of_cmd_raise hwe haddr hdec (by simp [exec, execToneStart, herr]) hcheck
    | none =>
      rw [herr] at hcheck
      exact followsRule_of_cmd_perform hwe haddr hdec (by simp [exec, execToneStart, herr, performCmd, hop]) hcheck

theorem followsRule_of_debStart (hop : cmdOp (twData tw) = 0x3) : FollowsRule tw s := by
  have hcheck := checkCmd_of_debStart s (cmdPayload (twData tw))
  rw [← hop] at hcheck
  split_ifs at hcheck with hrsv hbusy
  · exact followsRule_of_cmd_error hwe haddr (decodeCmd_of_debStart hop hrsv) hcheck
  · exact followsRule_of_cmd_raise hwe haddr (decodeCmd_of_legal_debStart hop (not_not.1 hrsv))
      (by simp [exec, execDebStart, hbusy]) hcheck
  · exact followsRule_of_cmd_perform hwe haddr (decodeCmd_of_legal_debStart hop (not_not.1 hrsv))
      (by simp [exec, execDebStart, hbusy, performCmd, hop]) hcheck

theorem followsRule_of_noOperand (hop : cmdOp (twData tw) ∈ [0x0#4, 0x2, 0x4, 0xF]) : FollowsRule tw s := by
  have hcheck := checkCmd_of_noOperand hop s (cmdPayload (twData tw))
  split_ifs at hcheck with hpl
  · exact followsRule_of_cmd_error hwe haddr (decodeCmd_of_payload hop hpl) hcheck
  · obtain ⟨i, hdec, hexec⟩ := exec_of_noOperand hop (not_not.1 hpl) s
    exact followsRule_of_cmd_perform hwe haddr hdec hexec hcheck

theorem followsRule_of_cmd : FollowsRule tw s := by
  rcases op_cases (cmdOp (twData tw)) with hill | hnone | htone | hdeb
  · exact followsRule_of_cmd_error hwe haddr (decodeCmd_of_illOp hill.1 hill.2) (checkCmd_of_illOp hill s _)
  · exact followsRule_of_noOperand hwe haddr hnone
  · exact followsRule_of_toneStart hwe haddr htone
  · exact followsRule_of_debStart hwe haddr hdeb

end

/-! ### Register writes -/

/-- R81: an accepted staging write is decoded to the one `perform` performs. -/
theorem exec_of_staging {addr : Offset} (hmem : addr ∈ stagingSet) {data : Word}
    (hhigh : data.extractLsb' 16 16 = 0#16) (s : State) :
    ∃ i, decodeWrite addr data = .instr i ∧ exec i s = .next (replyZero (perform s addr data)) := by
  simp only [stagingSet, List.mem_cons, List.not_mem_nil, or_false] at hmem
  rcases hmem with rfl | rfl | rfl | rfl <;> exact ⟨_, if_pos hhigh, rfl⟩

theorem followsRule_of_register_write (haddr : IsRegister (twAddr tw)) (hwe : twWe tw = true) : FollowsRule tw s := by
  have hdecode : decode tw = decodeWrite (twAddr tw) (twData tw) := by
    rw [decode_of_isRegister haddr, hwe, if_pos rfl]
  have hcheck := check_of_write haddr s (twData tw)
  rw [← hwe] at hcheck
  rcases register_cases _ haddr with hro | hstaging | hcmd | hseed
  · rw [if_pos hro] at hcheck
    exact followsRule_of_raise (hostStep_of_decode_error (hdecode.trans (decodeWrite_of_readOnly _ _ hro)) s) hcheck
  · have hne : ∀ a ∈ stagingSet, a ∉ roSet ∧ a ≠ 0x04 := by decide
    obtain ⟨hnro, hncmd⟩ := hne _ hstaging
    rw [if_neg hnro] at hcheck
    by_cases hhigh : (twData tw).extractLsb' 16 16 = 0#16
    · rw [if_neg fun h => h.2 hhigh, if_pos hncmd] at hcheck
      obtain ⟨i, hdec, hexec⟩ := exec_of_staging hstaging hhigh s
      exact followsRule_of_write ((hostStep_of_decode_instr (hdecode.trans hdec) s).trans hexec) hcheck hwe
    · rw [if_pos ⟨hstaging, hhigh⟩] at hcheck
      exact followsRule_of_raise
        (hostStep_of_decode_error (hdecode.trans (decodeWrite_of_wideStaging hhigh _ hstaging)) s) hcheck
  · exact followsRule_of_cmd hwe hcmd
  · have hdec : decode tw = .instr (.wrRngState (twData tw)) := by
      rw [hdecode, hseed]
      rfl
    have hexec : exec (.wrRngState (twData tw)) s = .next (replyZero (perform s (twAddr tw) (twData tw))) := by
      rw [hseed]
      rfl
    exact followsRule_of_write ((hostStep_of_decode_instr hdec s).trans hexec)
      (hcheck.trans (by rw [hseed]; simp [roSet, stagingSet])) hwe

/-! ### Every word -/

/-- R110, R212: on every word and state HostStep does what its pseudocode says. -/
theorem hostStep_eq_rule (tw : Tw) (s : State) : hostStep tw s = .next (hostStepRule s tw) := by
  by_cases haligned : (twAddr tw).extractLsb' 0 2 = 0#2
  · by_cases hrange : 0x40#8 ≤ twAddr tw
    · exact followsRule_of_raise (hostStep_of_decode_error (decode_of_badAddr haligned hrange) s)
        (by simp [check, haligned, hrange, BusError.code])
    · cases hwe : twWe tw with
      | true => exact followsRule_of_register_write ⟨haligned, hrange⟩ hwe
      | false => exact followsRule_of_register_read ⟨haligned, hrange⟩ hwe
  · exact followsRule_of_raise (hostStep_of_decode_error (decode_of_not_aligned haligned) s) (if_pos haligned)

/-- Settles O7: HostStep is the last part of a cycle without reset, on the ports that tick and sample have left. -/
theorem stepFollowsHostStepRule : Obligations.StepFollowsHostStepRule := by
  intro s hrst
  rw [step_of_not_rst hrst, hostPhase, beforeHost_ports]
  split
  · exact hostStep_eq_rule _ _
  · rfl

end Sys2Proof.Machine
end

section
/-! SUPPORT. The transactions that belong to no unit (40_bus_access.md R112 to R116): the reads of ID, STATUS and ERR, NOP
and CLR_ERR. -/
namespace Sys2Proof.Machine

/-! ### Reads -/

/-- R32: STATUS is its flags one after another, the highest first. -/
theorem regStatus_eq_concat (s : State) :
    regStatus s = (((((0#27).concat s.audPhase).concat s.audEn).concat (errPend s)).concat s.debBusy).concat s.teActive :=
  rfl

/-- R32: ERR_PEND is set when a code is held. -/
theorem errPend_eq_decide (s : State) : errPend s = decide (s.errCode ≠ 0#4) := (decide_not ..).symm

/-- Settles O18: each flag at its bit, and nothing above the five. -/
theorem statusReadShowsTheFlags : Obligations.StatusReadShowsTheFlags := by
  intro s data
  refine ⟨decode_append 0#1 0x08 data (by decide) (by decide), regStatus s, rfl, ?_⟩
  rw [regStatus_eq_concat]
  refine ⟨?_, ?_, ?_, ?_, ?_, fun k hk => ?_⟩
  · simp
  · simp
  · simp [errPend_eq_decide]
  · simp
  · simp
  · obtain ⟨j, rfl⟩ := Nat.exists_eq_add_of_le' hk
    simp

/-- Settles O17: both words go to the read half of the decoder, and ERR is `err_code` zero-extended. -/
theorem idAndErrReads : Obligations.IdAndErrReads := by
  intro s data
  have hzext : regErr s = 0#28 ++ s.errCode := (setWidth_zero_append (w := 28) (k := 32) s.errCode).symm.trans (by simp)
  refine ⟨decode_append 0#1 0x00 data (by decide) (by decide), rfl, decode_append 0#1 0x0C data (by decide) (by decide),
    ?err, ?align⟩
  case err =>
    rw [← hzext]
    rfl
  case align =>
    have halign : (twAddr (0#1 ++ 0x0E#8 ++ data)).extractLsb' 0 2 ≠ 0#2 := by
      rw [twAddr_append]
      decide
    exact hostStep_of_decode_error (decode_of_not_aligned halign) s

/-! ### Commands -/

/-- A command's word written field by field (R82). -/
theorem fields_eq_cmdWord (op : BitVec 4) (pl : BitVec 28) : 1#1 ++ 0x04#8 ++ op ++ pl = cmdWord op pl :=
  BitVec.append_assoc

/-- R87, R215: a command without operand is refused with any other payload than 0. -/
theorem hostStep_of_payload {op : BitVec 4} {pl : BitVec 28} (hop : op ∈ [0x0#4, 0x2, 0x4, 0xF]) (hpl : pl ≠ 0#28)
    (s : State) : hostStep (1#1 ++ 0x04#8 ++ op ++ pl) s = .next (raiseBusError .rsvBits s) := by
  have hdec : decode (cmdWord op pl) = .error .rsvBits :=
    (decode_cmdWord op pl).trans (decodeCmd_of_payload (by rwa [cmdOp_append]) (by rwa [cmdPayload_append]))
  rw [fields_eq_cmdWord]
  exact hostStep_of_decode_error hdec s

/-- Settles O27: the two accepted words are closed terms; with a payload both raise RSV_BITS. -/
theorem nopAndClearError : Obligations.NopAndClearError := by
  intro s pl
  refine ⟨by decide, rfl, by decide, rfl, fun hpl => ⟨?nop, ?clrErr⟩⟩
  case nop => exact hostStep_of_payload (by decide) hpl s
  case clrErr => exact hostStep_of_payload (by decide) hpl s

end Sys2Proof.Machine
end

section
/-! SUPPORT. The Input Debouncer's wait (41_debouncer.md R130, R131): what one sample does, then what any list of samples
does (R135, R136). -/
namespace Sys2Proof.Machine

variable {s : State} {m : ButtonMask} {ms : List ButtonMask}

/-! ### One sample -/

/-- R131: a sample while no wait is busy is dropped. -/
theorem sampleStep_of_not_busy (m : ButtonMask) (hfree : s.debBusy = false) : sampleStep m s = s :=
  if_neg (by simp [hfree])

/-- R131: no button is pressed now, and one was. -/
theorem sampleStep_of_release (hbusy : s.debBusy = true) (hrelease : s.debAcc ||| m ≠ 0#4 ∧ m = 0#4) :
    sampleStep m s = { s with
      debAcc := s.debAcc ||| m, debLast := m, debLeft := s.debLeft - 1#16, debBusy := false, debRel := true } :=
  (if_pos hbusy).trans (if_pos hrelease)

/-- R131: no release, and the budget is used up. -/
theorem sampleStep_of_timeout (hbusy : s.debBusy = true) (hheld : ¬(s.debAcc ||| m ≠ 0#4 ∧ m = 0#4))
    (hleft : s.debLeft - 1#16 = 0#16) : sampleStep m s = { s with
      debAcc := s.debAcc ||| m, debLast := m, debLeft := s.debLeft - 1#16, debBusy := false, debRel := false } :=
  (if_pos hbusy).trans ((if_neg hheld).trans (if_pos hleft))

/-- R131: no release, and budget is left. -/
theorem sampleStep_of_going_on (hbusy : s.debBusy = true) (hheld : ¬(s.debAcc ||| m ≠ 0#4 ∧ m = 0#4))
    (hleft : s.debLeft - 1#16 ≠ 0#16) : sampleStep m s = { s with
      debAcc := s.debAcc ||| m, debLast := m, debLeft := s.debLeft - 1#16 } :=
  (if_pos hbusy).trans ((if_neg hheld).trans (if_neg hleft))

/-- However it ends, a sample that finds the wait busy is accumulated (R131). -/
theorem sampleStep_debAcc (m : ButtonMask) (hbusy : s.debBusy = true) : (sampleStep m s).debAcc = s.debAcc ||| m := by
  rcases sampleStep_cases m s with ⟨hfree, -⟩ | ⟨-, -, h⟩ | ⟨-, -, -, h⟩ | ⟨-, -, -, h⟩
  · exact absurd (hbusy.symm.trans hfree) (by decide)
  all_goals rw [h]

/-- However it ends, a sample that finds the wait busy takes one from the budget (R131). -/
theorem sampleStep_debLeft (m : ButtonMask) (hbusy : s.debBusy = true) :
    (sampleStep m s).debLeft = s.debLeft - 1#16 := by
  rcases sampleStep_cases m s with ⟨hfree, -⟩ | ⟨-, -, h⟩ | ⟨-, -, -, h⟩ | ⟨-, -, -, h⟩
  · exact absurd (hbusy.symm.trans hfree) (by decide)
  all_goals rw [h]

/-- R131: the budget does not wrap in a wait that has one. -/
theorem debLeft_sub_one_toNat (hleft : 1#16 ≤ s.debLeft) : (s.debLeft - 1#16).toNat + 1 = s.debLeft.toNat := by
  rw [BitVec.toNat_sub_of_le hleft]
  exact Nat.sub_add_cancel hleft

/-- Settles O35: the three ways R131 lets a busy wait go on from a sample, with the budget of R29. -/
theorem sampleStepFollowsItsRule : Obligations.SampleStepFollowsItsRule := by
  rintro s btn ⟨⟨-, hwait⟩, -⟩
  refine ⟨sampleStep_of_not_busy btn, fun hbusy => ⟨s.debLeft - 1#16, debLeft_sub_one_toNat (hwait hbusy), ?_, ?_, ?_⟩⟩
  · exact fun hacc hbtn => sampleStep_of_release hbusy ⟨hacc, hbtn⟩
  · exact fun hheld hleft => sampleStep_of_timeout hbusy (by tauto) hleft
  · exact fun hheld hleft => sampleStep_of_going_on hbusy (by tauto) hleft

/-! ### Samples in a row -/

theorem samples_append (ms more : List ButtonMask) (s : State) :
    samples (ms ++ more) s = samples more (samples ms s) := by
  induction ms generalizing s with
  | nil => rfl
  | cons m ms ih => exact ih (sampleStep m s)

/-- What every one of the samples keeps holds after them all. -/
theorem samples_keeps {P : State → Prop} (hstep : ∀ m ∈ ms, ∀ s, P s → P (sampleStep m s)) (hs : P s) :
    P (samples ms s) := by
  induction ms generalizing s with
  | nil => exact hs
  | cons m ms ih =>
    exact ih (fun m' hm' => hstep m' (List.mem_cons_of_mem m hm')) (hstep m List.mem_cons_self s hs)

/-- R131: no sample after the end of a wait counts. -/
theorem samples_of_not_busy (ms : List ButtonMask) (hfree : s.debBusy = false) : samples ms s = s :=
  samples_keeps (P := (· = s)) (fun m _ _ ht => by rw [ht, sampleStep_of_not_busy m hfree]) rfl

/-! ### What a wait accumulates -/

/-- The accumulation is the fold of the samples that find the wait busy (R131). -/
theorem samples_debAcc (hbusy : ∀ k, k < ms.length → (samples (ms.take k) s).debBusy = true) :
    (samples ms s).debAcc = ms.foldl (fun a m => a ||| m) s.debAcc := by
  induction ms generalizing s with
  | nil => rfl
  | cons m ms ih =>
    have hnow : s.debBusy = true := hbusy 0 (Nat.zero_lt_succ _)
    have hlater (k : Nat) (hk : k < ms.length) : (samples (ms.take k) (sampleStep m s)).debBusy = true :=
      hbusy (k + 1) (Nat.succ_lt_succ hk)
    rw [List.foldl_cons, ← sampleStep_debAcc m hnow]
    exact ih hlater

/-- A button is in an OR of masks when it is in one of them. -/
theorem getLsbD_foldl_or (ms : List ButtonMask) (a : ButtonMask) (i : Nat) :
    (ms.foldl (fun a m => a ||| m) a).getLsbD i = (a.getLsbD i || ms.any (·.getLsbD i)) := by
  induction ms generalizing a with
  | nil => simp
  | cons m ms ih => rw [List.foldl_cons, ih, BitVec.getLsbD_or, List.any_cons, Bool.or_assoc]

theorem and_foldl_or_of_mem (a : ButtonMask) (hm : m ∈ ms) : m &&& ms.foldl (fun a m => a ||| m) a = m := by
  refine BitVec.eq_of_getLsbD_eq fun i _ => ?_
  rw [BitVec.getLsbD_and, getLsbD_foldl_or]
  cases hbit : m.getLsbD i with
  | false => rfl
  | true =>
    have hany : ms.any (·.getLsbD i) = true := List.any_eq_true.2 ⟨m, hm, hbit⟩
    rw [hany, Bool.or_true, Bool.and_true]

/-- Settles O45: the accumulation from DEB_START's empty mask. -/
theorem waitAccumulatesItsSamples : Obligations.WaitAccumulatesItsSamples := by
  intro s timeout ms hbusy
  have hacc : (samples ms (debStart timeout s)).debAcc = ms.foldl (fun a m => a ||| m) 0 := samples_debAcc hbusy
  refine ⟨hacc, fun m hm => ?_, fun hended more => ?_⟩
  · rw [hacc]
    exact and_foldl_or_of_mem 0 hm
  · rw [samples_append, samples_of_not_busy more hended]

/-! ### When a wait ends -/

/-- Each sample of a busy wait takes one from the budget, so no more find it busy than it has (R136). -/
theorem samples_not_busy_of_debLeft_le (hinv : DebouncerInv s) (hlen : s.debLeft.toNat ≤ ms.length) :
    (samples ms s).debBusy = false := by
  induction ms generalizing s with
  | nil =>
    obtain ⟨hwait, -⟩ := hinv
    exact Bool.eq_false_iff.2 fun hbusy => absurd hlen (Nat.not_le.2 (hwait hbusy))
  | cons m ms ih =>
    cases hbusy : s.debBusy with
    | false => rwa [samples_of_not_busy _ hbusy]
    | true =>
      have ⟨hwait, _⟩ := hinv
      have hleft := debLeft_sub_one_toNat (hwait hbusy)
      refine ih (debouncerInv_sampleStep m hinv) ?_
      rw [sampleStep_debLeft m hbusy]
      rw [List.length_cons] at hlen
      omega

/-- No button has been seen and the wait has not ended by release. -/
def NothingSeen (s : State) : Prop := s.debAcc = 0#4 ∧ s.debRel = false

/-- A sample without a button does not release a wait that has seen none (R131). -/
theorem not_release_of_nothingSeen (h : NothingSeen s) : ¬(s.debAcc ||| 0#4 ≠ 0#4 ∧ (0#4 : ButtonMask) = 0#4) := by
  simp [h.1]

theorem nothingSeen_sampleStep_zero (h : NothingSeen s) : NothingSeen (sampleStep 0#4 s) := by
  rcases sampleStep_cases 0#4 s with ⟨-, ht⟩ | ⟨-, hrelease, -⟩ | ⟨-, -, -, ht⟩ | ⟨-, -, -, ht⟩
  · rwa [ht]
  · exact absurd hrelease (not_release_of_nothingSeen h)
  · rw [ht]
    exact ⟨by simp [h.1], rfl⟩
  · rw [ht]
    exact ⟨by simp [h.1], h.2⟩

/-- Without a button pressed a wait goes on as long as it has budget (R136). -/
theorem samples_busy_of_nothingSeen (hnone : ∀ m ∈ ms, m = 0#4) (hseen : NothingSeen s) (hbusy : s.debBusy = true)
    (hlen : ms.length < s.debLeft.toNat) : (samples ms s).debBusy = true := by
  induction ms generalizing s with
  | nil => exact hbusy
  | cons m ms ih =>
    obtain ⟨rfl, hrest⟩ := List.forall_mem_cons.1 hnone
    rw [List.length_cons] at hlen
    have hleft : (s.debLeft - 1#16).toNat + 1 = s.debLeft.toNat := by bv_omega
    have hmore : s.debLeft - 1#16 ≠ 0#16 := by bv_omega
    refine ih hrest (nothingSeen_sampleStep_zero hseen) ?_ ?_
    · rw [sampleStep_of_going_on hbusy (not_release_of_nothingSeen hseen) hmore]
      exact hbusy
    · rw [sampleStep_debLeft _ hbusy]
      omega

/-- Settles O46: DEB_START gives the budget TIMEOUT, with nothing seen. -/
theorem waitEndsWithinItsBudget : Obligations.WaitEndsWithinItsBudget := by
  intro s timeout ms
  refine ⟨samples_not_busy_of_debLeft_le (debouncerInv_debStart timeout s), fun hnone => ?_⟩
  have hseen : NothingSeen (debStart timeout s) := ⟨rfl, rfl⟩
  refine ⟨fun hlen => samples_busy_of_nothingSeen hnone hseen ?_ hlen, ?_⟩
  · have hne : timeout ≠ 0#16 := by bv_omega
    simpa using hne
  · exact samples_keeps (fun m hm _ ht => hnone m hm ▸ nothingSeen_sampleStep_zero ht) hseen

end Sys2Proof.Machine
end

section
/-! SUPPORT. The transactions of the Input Debouncer (41_debouncer.md R130 to R134). -/
namespace Sys2Proof.Machine

/-- R134: `popcount` is the number of buttons of the mask. -/
theorem popcount_toNat (m : ButtonMask) :
    (popcount m).toNat = ((List.range 4).filter (fun k => m.getLsbD k)).length := by
  revert m
  decide

/-- DEB_RESULT from bit 4 up: its fields above ACC (R132). -/
theorem regDebResult_above_acc (s : State) {start len : Nat} (h : 4 ≤ start) :
    (regDebResult s).extractLsb' start len =
      (0#20 ++ s.debLast ++ BitVec.ofBool s.debRel ++ popcount s.debAcc).extractLsb' (start - 4) len :=
  BitVec.extractLsb'_append_eq_of_le h

/-- DEB_RESULT from bit 7 up: its fields above POP (R132). -/
theorem regDebResult_above_pop (s : State) {start len : Nat} (h : 7 ≤ start) :
    (regDebResult s).extractLsb' start len =
      (0#20 ++ s.debLast ++ BitVec.ofBool s.debRel).extractLsb' (start - 4 - 3) len :=
  (regDebResult_above_acc s (by omega)).trans (BitVec.extractLsb'_append_eq_of_le (by omega))

/-- DEB_RESULT from bit 8 up: its fields above REL (R132). -/
theorem regDebResult_above_rel (s : State) {start len : Nat} (h : 8 ≤ start) :
    (regDebResult s).extractLsb' start len = (0#20 ++ s.debLast).extractLsb' (start - 4 - 3 - 1) len :=
  (regDebResult_above_pop s (by omega)).trans (BitVec.extractLsb'_append_eq_of_le (by omega))

/-- Settles O21: each field of DEB_RESULT is the lowest one left above those before it. -/
theorem debouncerReads : Obligations.DebouncerReads := by
  intro s data
  refine ⟨decode_append 0#1 0x30 data (by decide) (by decide), ⟨regDebResult s, rfl, ?acc, ?pop, ?rel, ?last, ?reserved⟩,
    decode_append 0#1 0x34 data (by decide) (by decide), ?left⟩
  case acc => exact BitVec.extractLsb'_append_eq_right
  case pop =>
    rw [← popcount_toNat, regDebResult_above_acc s (by decide)]
    exact congrArg BitVec.toNat BitVec.extractLsb'_append_eq_right
  case rel =>
    have hrel : (regDebResult s).extractLsb' 7 1 = BitVec.ofBool s.debRel :=
      (regDebResult_above_pop s (by decide)).trans BitVec.extractLsb'_append_eq_right
    simpa using congrArg (·.getLsbD 0) hrel
  case last => exact (regDebResult_above_rel s (by decide)).trans BitVec.extractLsb'_append_eq_right
  case reserved => exact (regDebResult_above_rel s (by decide)).trans BitVec.extractLsb'_append_eq_left
  case left =>
    rw [zeroHalf_eq_setWidth]
    rfl

/-- Settles O32: the word is an encoded one, `exec` tests for a wait in progress, and the decoder tests the payload.
(`debStart` itself names the model's operation.) -/
theorem debStartFollowsItsRule : Obligations.DebStart := by
  intro s timeout pl
  refine ⟨?decodes, fun hfree => ?accepted, fun hbusy => if_pos hbusy, fun hrsv => ?reserved⟩
  case decodes =>
    have hword : 1#1 ++ 0x04#8 ++ 0x3#4 ++ 0x000#12 ++ timeout = encode (.debStart timeout) :=
      (BitVec.append_assoc (x₁ := 1#1 ++ 0x04#8 ++ 0x3#4)).trans (fields_eq_cmdWord 0x3 (0x000#12 ++ timeout))
    rw [hword]
    exact decodeEncodeRoundTrip (.debStart timeout) rfl
  case accepted =>
    have hrun : decide (timeout ≠ 0) = (timeout != 0#16) := decide_not ..
    rw [hrun]
    exact if_neg (by simp [hfree])
  case reserved =>
    have hdec : decode (cmdWord 0x3#4 pl) = .error .rsvBits :=
      (decode_cmdWord _ pl).trans (decodeCmd_of_debStart (cmdOp_append ..) (by rwa [cmdPayload_append]))
    rw [fields_eq_cmdWord]
    exact hostStep_of_decode_error hdec s

end Sys2Proof.Machine
end

section
/-! SUPPORT. One tick of the Tone Engine (42_tone_engine.md R170 to R173): one lemma for each thing it can do. -/
namespace Sys2Proof.Machine

variable {s : State}

/-- R173: the next half-period of a sweep is positive and not below the floor. -/
abbrev ChainGoesOn (s : State) : Prop := s.teStep < s.teHp ∧ s.teFloor ≤ s.teHp - s.teStep

/-- R173 over the integers: the difference does not wrap. -/
theorem chainGoesOn_iff (s : State) : ChainGoesOn s ↔
    s.teStep.toNat < s.teHp.toNat ∧ s.teFloor.toNat ≤ s.teHp.toNat - s.teStep.toNat :=
  and_congr_right fun hlt => by rw [BitVec.le_def, BitVec.toNat_sub_of_le (BitVec.le_of_lt hlt)]

/-- R170: a tick while Idle is dropped. -/
theorem tickStep_of_idle (hidle : s.teActive = false) : tickStep s = s :=
  if_neg (by simp [hidle])

/-- R170: before the half-period's end a tick only counts. -/
theorem tickStep_of_counting (hactive : s.teActive = true) (hcount : s.tePhaseCnt + 1#16 < s.teHp) :
    tickStep s = { s with tePhaseCnt := s.tePhaseCnt + 1#16 } :=
  (if_pos hactive).trans (if_pos hcount)

/-- R170: the half-period's last tick toggles, with half-periods left to emit. -/
theorem tickStep_of_toggle (hactive : s.teActive = true) (hfires : ¬ s.tePhaseCnt + 1#16 < s.teHp)
    (hmore : s.teRemaining - 1#16 ≠ 0#16) : tickStep s = { s with
      tePhaseCnt := 0#16, audPhase := !s.audPhase, teRemaining := s.teRemaining - 1#16 } :=
  (if_pos hactive).trans ((if_neg hfires).trans (if_neg hmore))

/-- R171 to R173: the last half-period's last tick ends a STOP tone, and a SWEEP tone whose chain does not go on. -/
theorem tickStep_of_end (hactive : s.teActive = true) (hfires : ¬ s.tePhaseCnt + 1#16 < s.teHp)
    (hlast : s.teRemaining - 1#16 = 0#16) (hend : s.teCb = .stop ∨ ¬ ChainGoesOn s) : tickStep s = doStop s := by
  rcases tickStep_cases s with ⟨hidle, -⟩ | ⟨-, hcount, -⟩ | ⟨-, -, hmore, -⟩ | ⟨-, -, -, -, ht⟩ |
    ⟨-, -, -, hcb, hstep, hfloor, -⟩
  · cases hactive.symm.trans hidle
  · exact absurd hcount hfires
  · exact absurd hlast hmore
  · exact ht
  · rw [hcb] at hend
    exact hend.elim nofun (absurd ⟨hstep, hfloor⟩)

/-- R171, R173: the last half-period's last tick arms the next tone of a chain that goes on. -/
theorem tickStep_of_chain (hactive : s.teActive = true) (hfires : ¬ s.tePhaseCnt + 1#16 < s.teHp)
    (hlast : s.teRemaining - 1#16 = 0#16) (hcb : s.teCb = .sweep) (hchain : ChainGoesOn s) :
    tickStep s = { s with
      teHp := s.teHp - s.teStep, teRemaining := s.teReload, tePhaseCnt := 0#16, audPhase := !s.audPhase,
      teActive := true, teCb := .sweep, audEn := true } := by
  rcases tickStep_cases s with ⟨hidle, -⟩ | ⟨-, hcount, -⟩ | ⟨-, -, hmore, -⟩ | ⟨-, -, -, hend, -⟩ |
    ⟨-, -, -, -, -, -, ht⟩
  · cases hactive.symm.trans hidle
  · exact absurd hcount hfires
  · exact absurd hlast hmore
  · rw [hcb] at hend
    exact hend.elim nofun (absurd hchain)
  · exact ht

/-- Settles O34: R29 keeps the counters from wrapping, and has an Active engine driven. -/
theorem tickStepFollowsItsRule : Obligations.TickStepFollowsItsRule := by
  rintro s ⟨⟨⟨hactiveInv, -, -⟩, -⟩, -⟩
  refine ⟨tickStep_of_idle, fun ha hcount => ?counts, fun ha hfires hmore => ?toggles,
    fun ha hfires hlast hend => ?ends, fun ha hfires hlast hcb hstep hfloor => ?chains⟩
  case counts =>
    exact ⟨s.tePhaseCnt + 1#16, by bv_omega, tickStep_of_counting ha (by bv_omega)⟩
  case toggles =>
    exact ⟨s.teRemaining - 1#16, by bv_omega, tickStep_of_toggle ha (by bv_omega) (by bv_omega)⟩
  case ends =>
    have hstops : s.teCb = .stop ∨ ¬ ChainGoesOn s := by
      rw [chainGoesOn_iff]
      exact hend.imp_right (by omega)
    exact tickStep_of_end ha (by bv_omega) (by bv_omega) hstops
  case chains =>
    have hgoes : ChainGoesOn s := (chainGoesOn_iff s).2 ⟨hstep, hfloor⟩
    have ⟨_, _, _, haud⟩ := hactiveInv ha
    refine ⟨s.teHp - s.teStep, by bv_omega, ?_⟩
    rw [tickStep_of_chain ha (by bv_omega) (by bv_omega) hcb hgoes]
    simp [ha, hcb, haud]

/-- R174: no tick leaves an Active SWEEP tone Idle while its chain goes on. -/
theorem tickStep_teActive_of_chain (hactive : s.teActive = true) (hcb : s.teCb = .sweep) (hchain : ChainGoesOn s) :
    (tickStep s).teActive = true := by
  rcases tickStep_cases s with ⟨-, ht⟩ | ⟨-, -, ht⟩ | ⟨-, -, -, ht⟩ | ⟨-, -, -, hend, -⟩ | ⟨-, -, -, -, -, -, ht⟩
  · rwa [ht]
  · rwa [ht]
  · rwa [ht]
  · rw [hcb] at hend
    exact hend.elim nofun (absurd hchain)
  · rw [ht]

/-- Settles O42: bit 0 of STATUS is `te_active`. -/
theorem chainNeverReadsIdle : Obligations.ChainNeverReadsIdle := by
  intro s hactive hcb hstep hfloor
  have hchain : ChainGoesOn s := (chainGoesOn_iff s).2 ⟨hstep, hfloor⟩
  obtain ⟨-, v, hread, hbit, -⟩ := statusReadShowsTheFlags (tickStep s) 0
  exact ⟨_, hread, hbit.trans (tickStep_teActive_of_chain hactive hcb hchain)⟩

end Sys2Proof.Machine
end

section
/-! SUPPORT. Ticks in a row (42_tone_engine.md R175, R179): the schedule of a tone from its first tick, and the end of
every tone and chain. -/
namespace Sys2Proof.Machine

variable {s : State}

theorem ticks_add (m n : Nat) (s : State) : ticks (m + n) s = ticks n (ticks m s) := by
  induction m generalizing s with
  | zero => rw [Nat.zero_add]; rfl
  | succ m ih =>
    rw [Nat.add_right_comm]
    exact ih (tickStep s)

theorem ticks_succ (n : Nat) (s : State) : ticks (n + 1) s = tickStep (ticks n s) := ticks_add n 1 s

/-- R170: no tick counts while Idle. -/
theorem ticks_of_idle (n : Nat) (hidle : s.teActive = false) : ticks n s = s := by
  induction n with
  | zero => rfl
  | succ n ih => rw [ticks_succ, ih, tickStep_of_idle hidle]

/-! ### The schedule of one tone -/

/-- The tone j ticks into a half-period. -/
def afterCounts (j : Nat) (s : State) : State := { s with tePhaseCnt := BitVec.ofNat 16 j }

theorem afterCounts_zero (hphase : s.tePhaseCnt = 0#16) : afterCounts 0 s = s :=
  congrArg (fun c => { s with tePhaseCnt := c }) hphase.symm

theorem tickStep_afterCounts (hactive : s.teActive = true) {j : Nat} (hj : j + 1 < s.teHp.toNat) :
    tickStep (afterCounts j s) = afterCounts (j + 1) s := by
  have hcount : BitVec.ofNat 16 j + 1#16 < s.teHp := by bv_omega
  rw [tickStep_of_counting (s := afterCounts j s) hactive hcount]
  exact congrArg (fun c => { s with tePhaseCnt := c }) (BitVec.ofNat_add j 1).symm

/-- R170: with all but one tick of the half-period counted, the next one fires the timer. -/
theorem fires_afterCounts {j : Nat} (hj : j + 1 = s.teHp.toNat) :
    ¬ (afterCounts j s).tePhaseCnt + 1#16 < (afterCounts j s).teHp := by
  simp only [afterCounts]
  bv_omega

/-- Within a half-period ticks only count. -/
theorem ticks_of_counting (hactive : s.teActive = true) (hphase : s.tePhaseCnt = 0#16) {j : Nat}
    (hj : j < s.teHp.toNat) : ticks j s = afterCounts j s := by
  induction j with
  | zero => exact (afterCounts_zero hphase).symm
  | succ j ih => rw [ticks_succ, ih (by omega), tickStep_afterCounts hactive hj]

/-- A whole half-period that is not the tone's last is one toggle. -/
theorem ticks_teHp (hactive : s.teActive = true) (hphase : s.tePhaseCnt = 0#16) (hhp : 1 ≤ s.teHp.toNat)
    (hmore : 1 < s.teRemaining.toNat) :
    ticks s.teHp.toNat s = { s with audPhase := !s.audPhase, teRemaining := s.teRemaining - 1#16 } := by
  obtain ⟨j, hj⟩ : ∃ j, s.teHp.toNat = j + 1 := Nat.exists_eq_add_of_le' hhp
  have hrem : s.teRemaining - 1#16 ≠ 0#16 := by bv_omega
  rw [hj, ticks_succ, ticks_of_counting hactive hphase (by omega),
    tickStep_of_toggle (s := afterCounts j s) hactive (fires_afterCounts hj.symm) hrem, ← hphase]
  rfl

/-- The tone after its k-th toggle. -/
def afterToggles (k : Nat) (s : State) : State :=
  { s with teRemaining := s.teRemaining - BitVec.ofNat 16 k, audPhase := s.audPhase ^^ decide (k % 2 = 1) }

theorem afterToggles_zero (s : State) : afterToggles 0 s = s := by simp [afterToggles]

theorem afterToggles_teRemaining_toNat {k : Nat} (hk : k ≤ s.teRemaining.toNat) :
    (afterToggles k s).teRemaining.toNat + k = s.teRemaining.toNat := by
  simp only [afterToggles]
  bv_omega

/-- One toggle more. -/
theorem afterToggles_succ (k : Nat) (s : State) : afterToggles (k + 1) s = { afterToggles k s with
    audPhase := !(afterToggles k s).audPhase, teRemaining := (afterToggles k s).teRemaining - 1#16 } := by
  have hrem : s.teRemaining - BitVec.ofNat 16 (k + 1) = s.teRemaining - BitVec.ofNat 16 k - 1#16 := by bv_omega
  have hparity : decide ((k + 1) % 2 = 1) = !decide (k % 2 = 1) := by
    rw [← decide_not, decide_eq_decide]
    omega
  simp [afterToggles, hrem, hparity]

/-- R175: after k whole half-periods, fewer than the tone has, it has toggled k times. -/
theorem ticks_halfPeriods (hactive : s.teActive = true) (hphase : s.tePhaseCnt = 0#16) (hhp : 1 ≤ s.teHp.toNat)
    {k : Nat} (hk : k < s.teRemaining.toNat) : ticks (k * s.teHp.toNat) s = afterToggles k s := by
  induction k with
  | zero => rw [Nat.zero_mul, afterToggles_zero]; rfl
  | succ k ih =>
    have hleft := afterToggles_teRemaining_toNat (s := s) (k := k) (by omega)
    rw [Nat.succ_mul, ticks_add, ih (by omega), afterToggles_succ]
    exact ticks_teHp (s := afterToggles k s) hactive hphase hhp (by omega)

/-- R175, R179: a tone's state k half-periods and j ticks after it was armed. -/
theorem ticks_schedule (hactive : s.teActive = true) (hphase : s.tePhaseCnt = 0#16) {k j : Nat}
    (hk : k < s.teRemaining.toNat) (hj : j < s.teHp.toNat) :
    ticks (k * s.teHp.toNat + j) s = afterCounts j (afterToggles k s) := by
  rw [ticks_add, ticks_halfPeriods hactive hphase (by omega) hk]
  exact ticks_of_counting (s := afterToggles k s) hactive hphase hj

/-- Settles O37: the schedule, its two counters read as numbers. -/
theorem toneTogglesExactly : Obligations.ToneTogglesExactly := by
  intro s k j hactive hphase hk hj
  refine ⟨BitVec.ofNat 16 j, (afterToggles k s).teRemaining, by bv_omega, afterToggles_teRemaining_toNat hk.le, ?_⟩
  rw [ticks_schedule hactive hphase hk hj]
  rfl

/-- R175, R172: the tick that ends a STOP tone is the last one of its last half-period. -/
theorem ticks_stopTone (hactive : s.teActive = true) (hphase : s.tePhaseCnt = 0#16) (hcb : s.teCb = .stop)
    (hhp : 1 ≤ s.teHp.toNat) (hn : 1 ≤ s.teRemaining.toNat) :
    ticks (s.teRemaining.toNat * s.teHp.toNat) s = doStop s := by
  obtain ⟨k, hk⟩ : ∃ k, s.teRemaining.toNat = k + 1 := Nat.exists_eq_add_of_le' hn
  obtain ⟨j, hj⟩ : ∃ j, s.teHp.toNat = j + 1 := Nat.exists_eq_add_of_le' hhp
  have hsplit : s.teRemaining.toNat * s.teHp.toNat = k * s.teHp.toNat + j + 1 := by
    rw [hk, Nat.succ_mul, hj]
    rfl
  have hleft := afterToggles_teRemaining_toNat (s := s) (k := k) (by omega)
  have hlast : (afterToggles k s).teRemaining - 1#16 = 0#16 := by bv_omega
  have hfires := fires_afterCounts (s := afterToggles k s) hj.symm
  rw [hsplit, ticks_succ, ticks_schedule hactive hphase (by omega) (by omega),
    tickStep_of_end (s := afterCounts j (afterToggles k s)) hactive hfires hlast (.inl hcb)]
  rfl

/-- Settles O38: up to its last tick the tone is at a place of its schedule, and after it no tick counts. -/
theorem stopToneEndsExactly : Obligations.StopToneEndsExactly := by
  intro s m hactive haud hphase hcb hhp hn
  constructor
  · intro hm
    have hk : m / s.teHp.toNat < s.teRemaining.toNat := Nat.div_lt_of_lt_mul (by rwa [Nat.mul_comm])
    rw [← Nat.div_add_mod' m s.teHp.toNat, ticks_schedule hactive hphase hk (Nat.mod_lt _ hhp)]
    exact ⟨hactive, haud⟩
  · intro hm
    obtain ⟨d, rfl⟩ := Nat.exists_eq_add_of_le hm
    rw [ticks_add, ticks_stopTone hactive hphase hcb hhp hn, ticks_of_idle d (doStop_teActive s)]
    rfl

/-! ### The end of every tone and chain -/

/-- A bound on the ticks until the engine is Idle: those left of this tone, and a chain of shorter tones. -/
def ticksLeft (s : State) : Nat :=
  s.teRemaining.toNat * s.teHp.toNat - s.tePhaseCnt.toNat + s.teHp.toNat * s.teHp.toNat * s.teReload.toNat

/-- R29: an Active engine has counted less than a half-period, and has one to emit. -/
theorem tePhaseCnt_lt_tone (hinv : ToneInv s) (hactive : s.teActive = true) :
    s.tePhaseCnt.toNat < s.teRemaining.toNat * s.teHp.toNat := by
  obtain ⟨hactiveInv, -, -⟩ := hinv
  obtain ⟨-, hphase, hrem, -⟩ := hactiveInv hactive
  exact hphase.trans_le (Nat.le_mul_of_pos_left _ hrem)

/-- R29: an Active engine has a tick to go. -/
theorem ticksLeft_pos (hinv : ToneInv s) (hactive : s.teActive = true) : 0 < ticksLeft s :=
  Nat.add_pos_left (Nat.sub_pos_of_lt (tePhaseCnt_lt_tone hinv hactive)) _

/-- R173: a tone of a smaller half-period and its chain fit into the chain's part of the bound. -/
theorem chain_budget {hp' hp n : Nat} (hlt : hp' < hp) : n * hp' + hp' * hp' * n ≤ hp * hp * n :=
  calc n * hp' + hp' * hp' * n
    _ = hp' * (hp' + 1) * n := by ring
    _ ≤ hp * hp * n := Nat.mul_le_mul_right n (Nat.mul_le_mul hlt.le hlt)

/-- Every tick of an Active engine ends it or uses up a tick of the bound. -/
theorem ticksLeft_tickStep (hinv : EngineInv s) (hactive : s.teActive = true) :
    (tickStep s).teActive = false ∨ ticksLeft (tickStep s) < ticksLeft s := by
  obtain ⟨htone, -⟩ := hinv
  have hleft := tePhaseCnt_lt_tone htone hactive
  obtain ⟨hactiveInv, -, hsweep⟩ := htone
  obtain ⟨-, hphase, hrem, -⟩ := hactiveInv hactive
  rcases tickStep_cases s with ⟨hidle, -⟩ | ⟨-, -, ht⟩ | ⟨-, hfires, -, ht⟩ | ⟨-, -, -, -, ht⟩ |
    ⟨-, hfires, hlast, hcb, hlt, -, ht⟩
  · cases hactive.symm.trans hidle
  · have hcount : (s.tePhaseCnt + 1#16).toNat = s.tePhaseCnt.toNat + 1 := by bv_omega
    refine .inr ?_
    simp only [ht, ticksLeft, hcount]
    omega
  · have hfull : s.tePhaseCnt.toNat + 1 = s.teHp.toNat := by bv_omega
    have hmore : s.teRemaining.toNat = (s.teRemaining - 1#16).toNat + 1 := by bv_omega
    refine .inr ?_
    simp only [ht, ticksLeft, BitVec.toNat_zero]
    rw [hmore, Nat.succ_mul]
    omega
  · rw [ht]
    exact .inl rfl
  · have hstep : 1#16 ≤ s.teStep := hsweep ⟨hcb, hactive⟩
    have hshrinks : (s.teHp - s.teStep).toNat < s.teHp.toNat := by bv_omega
    have hchain := chain_budget (n := s.teReload.toNat) hshrinks
    refine .inr ?_
    simp only [ht, ticksLeft, BitVec.toNat_zero]
    omega

/-- R247: within its bound the engine is Idle. -/
theorem ticks_idle_within {b : Nat} (hinv : EngineInv s) (hb : ticksLeft s ≤ b) :
    ∃ n, n ≤ b ∧ (ticks n s).teActive = false := by
  induction b generalizing s with
  | zero =>
    have ⟨htone, _⟩ := hinv
    exact ⟨0, le_rfl, Bool.eq_false_iff.2 fun ha => absurd (ticksLeft_pos htone ha) (by omega)⟩
  | succ b ih =>
    cases hactive : s.teActive with
    | false => exact ⟨0, Nat.zero_le _, hactive⟩
    | true =>
      rcases ticksLeft_tickStep hinv hactive with hidle | hless
      · exact ⟨1, Nat.le_add_left 1 b, hidle⟩
      · obtain ⟨n, hn, hidle⟩ := ih (engineInv_tickStep hinv) (by omega)
        exact ⟨n + 1, Nat.succ_le_succ hn, hidle⟩

/-- Settles O40: the bound, less what the running half-period has counted. -/
theorem everyToneAndChainEnds : Obligations.EveryToneAndChainEnds := by
  intro s hinv
  obtain ⟨hengine, -⟩ := (invariant_iff s).1 hinv
  exact ticks_idle_within hengine (Nat.add_le_add_right (Nat.sub_le ..) _)

end Sys2Proof.Machine
end

section
/-! SUPPORT. A tick reads and writes the engine alone (42_tone_engine.md R170, R176, R178), so over any cycles without a
command of its own the engine is what the ticks make of it. -/
namespace Sys2Proof.Machine

variable {s : State}

/-- The machine `s` with the engine of `e`. -/
def withEngine (e s : State) : State :=
  { s with
    teActive := e.teActive, teHp := e.teHp, tePhaseCnt := e.tePhaseCnt, teRemaining := e.teRemaining, teCb := e.teCb,
    teReload := e.teReload, teStep := e.teStep, teFloor := e.teFloor, audEn := e.audEn, audPhase := e.audPhase }

theorem sameEngine_withEngine (e s : State) : SameEngine (withEngine e s) e :=
  ⟨rfl, rfl, rfl, rfl, rfl, rfl, rfl, rfl, rfl, rfl⟩

theorem withEngine_of_sameEngine {a b : State} (h : SameEngine a b) : withEngine b a = a := by
  obtain ⟨hactive, hhp, hcnt, hrem, hcb, hreload, hstep, hfloor, haud, hphase⟩ := h
  simp only [withEngine, ← hactive, ← hhp, ← hcnt, ← hrem, ← hcb, ← hreload, ← hstep, ← hfloor, ← haud, ← hphase]

theorem sameEngine_trans {a b c : State} (hab : SameEngine a b) (hbc : SameEngine b c) : SameEngine a c := by
  rw [← withEngine_of_sameEngine hab, ← withEngine_of_sameEngine hbc]
  exact sameEngine_withEngine c b

/-! ### Ticks -/

theorem sweepAction_withEngine (e s : State) : sweepAction (withEngine e s) = withEngine (sweepAction e) s := by
  unfold sweepAction
  rw [apply_ite (withEngine · s)]
  rfl

theorem complete_withEngine (e s : State) : complete (withEngine e s) = withEngine (complete e) s := by
  have hcb : (withEngine e s).teCb = e.teCb := rfl
  unfold complete
  rw [hcb]
  cases e.teCb with
  | stop => rfl
  | sweep => exact sweepAction_withEngine e s

/-- R170: a tick neither reads nor writes anything but the engine. -/
theorem tickStep_withEngine (e s : State) : tickStep (withEngine e s) = withEngine (tickStep e) s := by
  unfold tickStep timerFires
  simp only [apply_ite (withEngine · s), ← complete_withEngine]
  rfl

theorem ticks_withEngine (n : Nat) (e s : State) : ticks n (withEngine e s) = withEngine (ticks n e) s := by
  induction n with
  | zero => rfl
  | succ n ih => rw [ticks_succ, ticks_succ, ih, tickStep_withEngine]

/-- Machines with one engine play the same (R178). -/
theorem sameEngine_ticks (n : Nat) {a b : State} (h : SameEngine a b) : SameEngine (ticks n a) (ticks n b) := by
  rw [← withEngine_of_sameEngine h, ticks_withEngine]
  exact sameEngine_withEngine (ticks n b) a

/-- Settles O43: other staged values, and what a staging write leaves, have the engine as it was. -/
theorem runningToneIgnoresStaging : Obligations.RunningToneIgnoresStaging := by
  intro n s hp cnt st fl
  constructor
  · have hframe : ticks n s = withEngine (ticks n s) s := ticks_withEngine n s s
    rw [hframe]
    exact ticks_withEngine n s { s with stgHp := hp, stgCnt := cnt, stgStep := st, stgFloor := fl }
  · intro i hi
    have hplays (t : State) (ht : SameEngine t s) : SameEngine (ticks n t) (ticks n s) := sameEngine_ticks n ht
    simp only [List.mem_cons, List.not_mem_nil, or_false] at hi
    rcases hi with rfl | rfl | rfl | rfl <;>
      exact ⟨_, rfl, rfl, hplays _ ⟨rfl, rfl, rfl, rfl, rfl, rfl, rfl, rfl, rfl, rfl⟩⟩

/-! ### Cycles -/

/-- No instruction touches the cycles to come (R21). -/
theorem exec_script {i : Instr} {t : State} (hexec : exec i s = .next t) : t.script = s.script := by
  rcases exec_cases i s with ⟨v, hv, -⟩ | ⟨e, he, -⟩ | ⟨u, hu, -, hwrite⟩
  · cases hexec.symm.trans hv
    rfl
  · cases hexec.symm.trans he
    rfl
  · cases hexec.symm.trans hu
    rcases hwrite with ⟨v, -, rfl⟩ | ⟨v, -, rfl⟩ | ⟨v, -, rfl⟩ | ⟨v, -, rfl⟩ | ⟨v, -, rfl⟩ | ⟨-, rfl⟩ |
      ⟨cb, -, -, rfl⟩ | ⟨-, rfl⟩ | ⟨n, -, -, rfl⟩ | ⟨-, rfl⟩ | ⟨-, rfl⟩ <;> rfl

/-- R10: what stands before HostStep has the engine that the cycle's tick, if there is one, leaves. -/
theorem beforeHost_cons_sameEngine (p : Ports) (rest : List Ports) (s : State) :
    SameEngine (beforeHost { s with script := p :: rest }) (ticks p.tick.toNat s) := by
  have hsample : SameEngine (beforeHost { s with script := p :: rest })
      (tickPhase { s with ports := p, script := rest }) := by
    simp [SameEngine, takeInputs_cons]
  refine sameEngine_trans hsample ?_
  cases htick : p.tick with
  | false =>
    have hquiet : tickPhase { s with ports := p, script := rest } = { s with ports := p, script := rest } :=
      if_neg (by simp [htick])
    rw [hquiet]
    exact sameEngine_withEngine s { s with ports := p, script := rest }
  | true =>
    have hticked : tickPhase { s with ports := p, script := rest } =
        ticks 1 { s with ports := p, script := rest } := if_pos htick
    rw [hticked]
    exact sameEngine_ticks 1 (sameEngine_withEngine s { s with ports := p, script := rest })

/-- Nothing in the cycle but its tick reaches the engine: no reset, and no command of the engine's. -/
abbrev LeavesEngineToTicks (p : Ports) : Prop :=
  p.rst = false ∧ presented p ≠ some .toneStop ∧ ∀ cb, presented p ≠ some (.toneStart cb)

/-- R176: one such cycle. -/
theorem step_sameEngine_ticks {p : Ports} (hp : LeavesEngineToTicks p) (rest : List Ports) (s : State) :
    ∃ u, step { s with script := p :: rest } = .next u ∧ u.script = rest ∧ SameEngine u (ticks p.tick.toNat s) := by
  obtain ⟨hrst, hstop, hstart⟩ := hp
  obtain ⟨u, hu⟩ := step_eq_next { s with script := p :: rest }
  have hbefore := beforeHost_cons_sameEngine p rest s
  refine ⟨u, hu, ?script, ?engine⟩
  case script =>
    exact step_keeps_of_exec (P := (·.script = rest)) hu hrst (beforeHost_script _) (fun _ h => h) (fun _ _ h => h)
      fun i _ hexec => (exec_script hexec).trans (beforeHost_script _)
  case engine =>
    refine step_keeps_of_exec (P := (SameEngine · (ticks p.tick.toNat s))) hu hrst hbefore (fun _ h => h)
      (fun _ _ h => h) fun i hi hexec => ?_
    have hpres : presented p = some i := hi
    rw [hpres] at hstop hstart
    exact exec_sameEngine hexec (by simpa using hstop) (.inl (by simpa using hstart)) hbefore

/-- R176: the engine's time over such cycles is the number of ticks. -/
theorem run_sameEngine_ticks {cs : List Ports} (hcs : ∀ p ∈ cs, LeavesEngineToTicks p) (s : State)
    (rest : List Ports) : ∃ t, runSteps cs.length { s with script := cs ++ rest } = .next t ∧
      SameEngine t (ticks (cs.countP (·.tick)) s) := by
  induction cs generalizing s with
  | nil => exact ⟨_, rfl, sameEngine_withEngine s { s with script := rest }⟩
  | cons p cs ih =>
    obtain ⟨hp, hcs⟩ := List.forall_mem_cons.1 hcs
    obtain ⟨u, hu, hscript, hengine⟩ := step_sameEngine_ticks hp (cs ++ rest) s
    obtain ⟨t, ht, hrest⟩ := ih hcs u
    have hu' : { u with script := cs ++ rest } = u := by rw [← hscript]
    rw [hu'] at ht
    have hcount : (p :: cs).countP (·.tick) = p.tick.toNat + cs.countP (·.tick) := by
      rw [List.countP_cons, Nat.add_comm]
      cases p.tick <;> rfl
    refine ⟨t, ?_, ?_⟩
    · rw [List.length_cons, runSteps_succ, List.cons_append, hu, onNext_next, ht]
    · rw [hcount, ticks_add]
      exact sameEngine_trans hrest (sameEngine_ticks _ hengine)

/-- Settles O39: the run, in which an Idle engine drops every tick. -/
theorem engineTimeIsTheTicks : Obligations.EngineTimeIsTheTicks := by
  intro cs s rest hcs
  obtain ⟨t, ht, hengine⟩ := run_sameEngine_ticks hcs s rest
  refine ⟨t, ht, hengine, fun hidle => ?_⟩
  rwa [ticks_of_idle _ hidle] at hengine

end Sys2Proof.Machine
end

section
/-! SUPPORT. The transactions of the Tone Engine (42_tone_engine.md R150 to R163): the staging registers, the reads of
the engine, TONE_START and TONE_STOP. -/
namespace Sys2Proof.Machine

variable {s : State}

/-! ### Reads -/

/-- R81: a read's DATA bits have no part in its decoding. -/
theorem decode_read {addr : Offset} (haddr : IsRegister addr) (data : Word) :
    decode (0#1 ++ addr ++ data) = decodeRead addr :=
  decode_append 0#1 addr data haddr.1 haddr.2

/-- A read that shows a 16-bit field shows it zero-extended (R88). -/
theorem exec_read_half {i : Instr} {v : Half} (hread : exec i s = .next (replyRead (v.setWidth 32) s)) :
    exec i s = .next { s with busRdataQ := 0#16 ++ v, busErrQ := false } := by
  rw [zeroHalf_eq_setWidth]
  exact hread

/-- Settles O19: each word goes to its part of the read decoder, and each read shows its own field. -/
theorem stagingReads : Obligations.StagingReads := by
  intro s data
  exact ⟨decode_read (addr := 0x10) (by decide) data, exec_read_half rfl,
    decode_read (addr := 0x14) (by decide) data, exec_read_half rfl,
    decode_read (addr := 0x18) (by decide) data, exec_read_half rfl,
    decode_read (addr := 0x1C) (by decide) data, exec_read_half rfl⟩

/-- R40, R162: TE_CTRL is 1 for SWEEP and 0 for STOP. -/
theorem regTeCtrl_eq (s : State) : regTeCtrl s = if s.teCb = .sweep then 1 else 0 := by
  unfold regTeCtrl
  cases s.teCb with
  | stop => rfl
  | sweep => rfl

/-- Settles O20: each word goes to its part of the read decoder, and each read shows its own field. -/
theorem engineReads : Obligations.EngineReads := by
  intro s data
  refine ⟨decode_read (addr := 0x20) (by decide) data, exec_read_half rfl,
    decode_read (addr := 0x24) (by decide) data, exec_read_half rfl,
    decode_read (addr := 0x28) (by decide) data, ?ctrl,
    decode_read (addr := 0x2C) (by decide) data, exec_read_half rfl⟩
  case ctrl =>
    rw [← regTeCtrl_eq]
    rfl

/-! ### Staging writes -/

/-- R84, R215: a staging write with a bit of DATA[31:16] set is refused. -/
theorem hostStep_of_wideStaging {addr : Offset} (haddr : addr ∈ stagingSet) {data : Word}
    (hwide : data.extractLsb' 16 16 ≠ 0#16) (s : State) :
    hostStep (1#1 ++ addr ++ data) s = .next (raiseBusError .rsvBits s) := by
  have hregs : ∀ a ∈ stagingSet, IsRegister a := by decide
  have hdec : decode (writeWord addr data) = .error .rsvBits :=
    (decode_writeWord (hregs addr haddr) data).trans (decodeWrite_of_wideStaging hwide addr haddr)
  exact hostStep_of_decode_error hdec s

/-- Settles O24: the accepted words are encoded ones, the others are refused by the decoder. -/
theorem stagingWrites : Obligations.StagingWrites := by
  intro s v data refused
  have hword (addr : Offset) : 1#1 ++ addr ++ 0#16 ++ v = writeWord addr (0#16 ++ v) := BitVec.append_assoc
  have hdec {i : Instr} {addr : Offset} (hwf : i.WellFormed) (henc : writeWord addr (0#16 ++ v) = encode i) :
      decode (1#1 ++ addr ++ 0#16 ++ v) = .instr i := by
    rw [hword, henc]
    exact decodeEncodeRoundTrip i hwf
  exact ⟨hdec rfl rfl, rfl, hdec rfl rfl, rfl, hdec rfl rfl, rfl, hdec rfl rfl, rfl, fun hwide =>
    ⟨hostStep_of_wideStaging (by decide) hwide s, hostStep_of_wideStaging (by decide) hwide s,
      hostStep_of_wideStaging (by decide) hwide s, hostStep_of_wideStaging (by decide) hwide s⟩⟩

/-! ### TONE_START -/

/-- R150, R110: an accepted TONE_START has its effect and an empty reply. -/
theorem exec_toneStart_of_accepted {cb : BitVec 2} (haccepted : toneStartError cb s = none) :
    exec (.toneStart cb) s = .next (replyZero (toneStart cb s)) := by
  simp [exec, execToneStart, haccepted]

/-- R150, R215: a refused TONE_START raises its error and does nothing else. -/
theorem exec_toneStart_of_refused {cb : BitVec 2} {e : BusError} (hrefused : toneStartError cb s = some e) :
    exec (.toneStart cb) s = .next (raiseBusError e s) := by
  simp [exec, execToneStart, hrefused]

/-- Settles O28: the hypotheses are R150's checks. -/
theorem toneStartLatchesAndArms : Obligations.ToneStartLatchesAndArms := by
  intro s cb hcb hidle hhp hcnt hstep
  have hlegal : cbLegal cb = true := by
    rcases hcb with rfl | rfl <;> rfl
  exact exec_toneStart_of_accepted ((toneStartError_eq_none cb s).2 ⟨hlegal, hidle, hhp, hcnt, hstep⟩)

/-- Settles O29: R150's checks in their order. -/
theorem toneStartRefusals : Obligations.ToneStartRefusals := by
  intro s cb raises
  have hraises (e : BusError) (herr : toneStartError cb s = some e) : raises e.code := exec_toneStart_of_refused herr
  have hreserved : ∀ cb : BitVec 2, 2#2 ≤ cb → cbLegal cb = false := by decide
  have hlegal (hcb : cb < 2#2) : cbLegal cb = true := cbLegal_of_not_reserved cb (BitVec.not_le.2 hcb)
  refine ⟨fun hcb => hraises .rsvBits ?_, fun hcb hactive => hraises .teBusy ?_,
    fun hcb hidle hzero => hraises .teZero ?_, fun hcb hidle _ _ hstep => hraises .teZero ?_⟩
  · simp [toneStartError, hreserved cb hcb]
  · simp [toneStartError, hlegal hcb, hactive]
  · exact (if_neg (by simp [hlegal hcb])).trans ((if_neg (by simp [hidle])).trans (if_pos hzero))
  · subst hcb
    simp [toneStartError, cbLegal, hidle, hstep]

/-! ### TONE_STOP -/

/-- R151, R29: stopping an Idle engine changes nothing of it. -/
theorem sameEngine_doStop_of_idle (hinv : ToneInv s) (hidle : s.teActive = false) : SameEngine (doStop s) s := by
  obtain ⟨-, hidleInv, -⟩ := hinv
  obtain ⟨haud, hphase, hrem, hcnt⟩ := hidleInv hidle
  exact ⟨hidle.symm, rfl, hcnt.symm, hrem.symm, rfl, rfl, rfl, rfl, haud.symm, hphase.symm⟩

/-- Settles O30: `DoStop` and the cleared reply. -/
theorem toneStopForcesIdle : Obligations.ToneStopForcesIdle :=
  ⟨fun _ => rfl, fun _ ⟨⟨htone, _⟩, _⟩ hidle => ⟨_, rfl, sameEngine_doStop_of_idle htone hidle⟩⟩

/-- Settles O31: the cycle's transaction is its last step. -/
theorem toneStopBeatsTheTick : Obligations.ToneStopBeatsTheTick := by
  intro s t hrst hpres hstep
  have hstopped : step s = .next (replyZero (doStop (beforeHost s))) := step_of_presented hrst hpres
  cases hstep.symm.trans hstopped
  exact ⟨rfl, rfl, rfl, rfl⟩

end Sys2Proof.Machine
end

section
/-! SUPPORT. The Random Sequence Generator by itself (43_prng.md R190 to R194): a machine of its own, which reads the
transaction and `frc` of each cycle and nothing else. -/
namespace Sys2Proof.Machine

variable {s t : State}

/-- The generator's fields (R27) and the width of the entropy it mixes in (R7). -/
structure Generator where
  /-- `rng_state` -/
  state : Word
  /-- `rng_out` -/
  out : BitVec 2
  /-- `rng_valid` -/
  valid : Bool
  /-- FRC_W - 1 -/
  frcTop : Fin 32

/-- The generator in a machine. -/
def generatorOf (s : State) : Generator := ⟨s.rngState, s.rngOut, s.rngValid, s.frcTop⟩

/-- R190: the draw. -/
def Generator.draw (frc : Word) (g : Generator) : Generator :=
  { g with
    state := lcg (g.state ^^^ zextFrc g.frcTop frc)
    out := (lcg (g.state ^^^ zextFrc g.frcTop frc)).extractLsb' 24 2
    valid := true }

/-- What a transaction does to the generator (R190, R191, R194). -/
def Generator.transact (frc : Word) (g : Generator) : Option Instr → Generator
  | some .rngDraw => g.draw frc
  | some (.wrRngState seed) => { g with state := seed }
  | _ => g

/-- What a cycle without reset does to the generator. -/
def Generator.cycle (g : Generator) (p : Ports) : Generator := g.transact p.frc (presented p)

theorem generatorOf_eq_iff {a b : State} :
    generatorOf a = generatorOf b ↔ SameRng a b ∧ a.frcTop = b.frcTop := by
  simp [generatorOf, and_assoc]

/-! ### The generator's own cycle -/

namespace Generator

theorem transact_frcTop (frc : Word) (g : Generator) (w : Option Instr) : (g.transact frc w).frcTop = g.frcTop := by
  unfold transact
  split <;> rfl

/-- R194: the index and VALID belong to the draw, the state to the draw and the seed write. -/
theorem transact_of_not_draw (frc : Word) (g : Generator) {w : Option Instr} (hdraw : w ≠ some .rngDraw) :
    (g.transact frc w).out = g.out ∧ (g.transact frc w).valid = g.valid ∧
      ((g.transact frc w).state = g.state ∨ w = some (.wrRngState (g.transact frc w).state)) := by
  unfold transact
  split
  · exact absurd rfl hdraw
  · exact ⟨rfl, rfl, .inr rfl⟩
  · exact ⟨rfl, rfl, .inl rfl⟩

theorem cycle_frcTop (g : Generator) (p : Ports) : (g.cycle p).frcTop = g.frcTop := transact_frcTop ..

theorem cycle_state (g : Generator) (p : Ports) : (g.cycle p).state = rngCycle g.frcTop g.state p := by
  unfold cycle rngCycle
  cases presented p with
  | none => rfl
  | some i => cases i <;> rfl

/-- R190: a draw leaves the index in step with the state. -/
theorem cycle_out_of_draw (g : Generator) {p : Ports} (hdraw : presented p = some .rngDraw) :
    (g.cycle p).out = (g.cycle p).state.extractLsb' 24 2 := by
  rw [cycle, hdraw]
  rfl

/-- R194: along any cycles the state is the fold of `rngCycle`. -/
theorem foldl_cycle_state (cs : List Ports) (g : Generator) :
    (cs.foldl cycle g).state = cs.foldl (rngCycle g.frcTop) g.state := by
  induction cs generalizing g with
  | nil => rfl
  | cons p cs ih => rw [List.foldl_cons, List.foldl_cons, ih, cycle_frcTop, cycle_state]

theorem foldl_cycle_out (cs : List Ports) (g : Generator) (hlast : cs.getLast?.bind presented = some .rngDraw) :
    (cs.foldl cycle g).out = (cs.foldl cycle g).state.extractLsb' 24 2 := by
  obtain rfl | ⟨init, p, rfl⟩ := cs.eq_nil_or_concat'
  · cases hlast
  · rw [List.foldl_append]
    exact cycle_out_of_draw _ (by simpa using hlast)

end Generator

/-! ### The machine's steps -/

theorem generatorOf_beforeHost (s : State) : generatorOf (beforeHost s) = generatorOf s := by
  simp [generatorOf]

/-- R58, R194: of the instructions the draw and the seed write reach the generator, and no other field flows into it. -/
theorem generatorOf_exec {i : Instr} (hexec : exec i s = .next t) :
    generatorOf t = (generatorOf s).transact s.ports.frc (some i) := by
  cases i with
  | toneStart cb =>
    cases herr : toneStartError cb s with
    | none =>
      cases hexec.symm.trans (exec_toneStart_of_accepted herr)
      rfl
    | some e =>
      cases hexec.symm.trans (exec_toneStart_of_refused herr)
      rfl
  | debStart n =>
    by_cases hbusy : s.debBusy = true
    · cases hexec.symm.trans (if_pos hbusy)
      rfl
    · cases hexec.symm.trans (if_neg hbusy)
      rfl
  | _ =>
    cases hexec
    rfl

/-- R194: a cycle of the machine is a cycle of its generator. -/
theorem generatorOf_step (hstep : step s = .next t) (hrst : (takeInputs s).ports.rst = false) :
    generatorOf t = (generatorOf s).cycle (takeInputs s).ports := by
  rw [Generator.cycle]
  rcases step_cases s with ⟨hr, -⟩ | ⟨-, -, hpres, hs⟩ | ⟨-, -, e, -, hpres, hs⟩ | ⟨-, -, i, -, hpres, hs⟩
  · cases hrst.symm.trans hr
  · cases hstep.symm.trans hs
    rw [hpres]
    exact generatorOf_beforeHost s
  · cases hstep.symm.trans hs
    rw [hpres]
    exact generatorOf_beforeHost s
  · have hexec := generatorOf_exec (hs.symm.trans hstep)
    rwa [generatorOf_beforeHost, beforeHost_ports, ← hpres] at hexec

/-- A cycle without reset uses up its own inputs (R21). -/
theorem step_script (hstep : step s = .next t) (hrst : (takeInputs s).ports.rst = false) :
    t.script = s.script.tail :=
  step_keeps_of_exec (P := (·.script = s.script.tail)) hstep hrst (beforeHost_script s) (fun _ h => h)
    (fun _ _ h => h) fun _ _ hexec => (exec_script hexec).trans (beforeHost_script s)

/-- R194: a run of the machine is a run of its generator. -/
theorem generatorOf_run {cs rest : List Ports} (hrst : ∀ p ∈ cs, p.rst = false) (hscript : s.script = cs ++ rest) :
    ∃ t, runSteps cs.length s = .next t ∧ generatorOf t = cs.foldl Generator.cycle (generatorOf s) := by
  induction cs generalizing s with
  | nil => exact ⟨s, rfl, rfl⟩
  | cons p cs ih =>
    obtain ⟨hp, hcs⟩ := List.forall_mem_cons.1 hrst
    obtain ⟨u, hu⟩ := step_eq_next s
    have hports : (takeInputs s).ports = p := takeInputs_ports_of_script hscript
    rw [← hports] at hp
    have hrest : u.script = cs ++ rest := by rw [step_script hu hp, hscript, List.cons_append, List.tail_cons]
    obtain ⟨t, ht, hgen⟩ := ih hcs hrest
    refine ⟨t, ?_, ?_⟩
    · rw [List.length_cons, runSteps_succ, hu, onNext_next, ht]
    · rw [hgen, generatorOf_step hu hp, hports, List.foldl_cons]

/-- Settles O51: the run of the generator, read at its state and at its index. -/
theorem generatorIsDeterminedByDraws : Obligations.GeneratorIsDeterminedByDraws := by
  intro cs s rest hrst
  obtain ⟨t, ht, hgen⟩ := generatorOf_run (s := { s with script := cs ++ rest }) hrst rfl
  have hstate : t.rngState = (cs.foldl Generator.cycle (generatorOf s)).state := congrArg Generator.state hgen
  have hout : t.rngOut = (cs.foldl Generator.cycle (generatorOf s)).out := congrArg Generator.out hgen
  refine ⟨t, ht, hstate.trans (Generator.foldl_cycle_state cs _), fun hlast => ?_⟩
  rw [hout, hstate]
  exact Generator.foldl_cycle_out cs _ hlast

/-- Settles O50: the generator's own cycle, for a transaction that is no draw. -/
theorem generatorChangesOnlyByItsEvents : Obligations.GeneratorChangesOnlyByItsEvents := by
  intro s t hstep hrst hdraw
  have hcycle := Generator.transact_of_not_draw (takeInputs s).ports.frc (generatorOf s) hdraw
  rw [← Generator.cycle, ← generatorOf_step hstep hrst] at hcycle
  exact hcycle

/-- Settles O52: a reset gives both machines the generator of R241, and any other cycle the one its own cycle gives. -/
theorem nothingElseFlowsIntoTheGenerator : Obligations.NothingElseFlowsIntoTheGenerator := by
  intro a b a' b' hrng htop hports ha hb
  cases hrst : (takeInputs a).ports.rst with
  | true =>
    have hreset (s : State) (h : (takeInputs s).ports.rst = true) : step s = .next (resetStep (takeInputs s)) := if_pos h
    cases ha.symm.trans (hreset a hrst)
    cases hb.symm.trans (hreset b (hports ▸ hrst))
    exact ⟨rfl, rfl, rfl⟩
  | false =>
    have hsame : generatorOf a = generatorOf b := generatorOf_eq_iff.2 ⟨hrng, htop⟩
    have hnext : generatorOf a' = generatorOf b' := by
      rw [generatorOf_step ha hrst, generatorOf_step hb (hports ▸ hrst), hsame, hports]
    exact (generatorOf_eq_iff.1 hnext).1

end Sys2Proof.Machine
end

section
/-! SUPPORT. The transactions of the Random Sequence Generator (43_prng.md R190 to R193). -/
namespace Sys2Proof.Machine

/-! ### Reads -/

/-- R8: the mask of an index has the one bit of that index. -/
theorem getLsbD_oneHot : ∀ (idx : BitVec 2) (k : Fin 4), (oneHot idx).getLsbD k = decide (idx.toNat = k) := by decide

/-- RNG_OUT from bit 2 up: its fields above IDX (R45). -/
theorem regRngOut_above_idx (s : State) {start len : Nat} (h : 2 ≤ start) :
    (regRngOut s).extractLsb' start len =
      (0#23 ++ BitVec.ofBool s.rngValid ++ oneHot s.rngOut ++ 0#2).extractLsb' (start - 2) len :=
  BitVec.extractLsb'_append_eq_of_le h

/-- RNG_OUT from bit 4 up: its fields above the two reserved bits (R45). -/
theorem regRngOut_above_reserved (s : State) {start len : Nat} (h : 4 ≤ start) :
    (regRngOut s).extractLsb' start len =
      (0#23 ++ BitVec.ofBool s.rngValid ++ oneHot s.rngOut).extractLsb' (start - 2 - 2) len :=
  (regRngOut_above_idx s (by omega)).trans (BitVec.extractLsb'_append_eq_of_le (by omega))

/-- RNG_OUT from bit 8 up: its fields above ONEHOT (R45). -/
theorem regRngOut_above_oneHot (s : State) {start len : Nat} (h : 8 ≤ start) :
    (regRngOut s).extractLsb' start len =
      (0#23 ++ BitVec.ofBool s.rngValid).extractLsb' (start - 2 - 2 - 4) len :=
  (regRngOut_above_reserved s (by omega)).trans (BitVec.extractLsb'_append_eq_of_le (by omega))

/-- R193: the read before any draw. -/
theorem regRngOut_of_no_draw {s : State} (hinv : GeneratorInv s) (hnone : s.rngValid = false) :
    regRngOut s = 0x00000010 := by
  rw [regRngOut, hnone, hinv hnone]
  rfl

/-- Settles O22: each field of RNG_OUT is the lowest one left above those before it. -/
theorem generatorReads : Obligations.GeneratorReads := by
  intro s data
  refine ⟨decode_read (addr := 0x38) (by decide) data, rfl, decode_read (addr := 0x3C) (by decide) data,
    regRngOut s, rfl, ?idx, ?reserved, fun k hk => ?oneHot, ?valid, ?above, fun hinv hnone => ?noDraw⟩
  case idx => exact BitVec.extractLsb'_append_eq_right
  case reserved => exact (regRngOut_above_idx s (by decide)).trans BitVec.extractLsb'_append_eq_right
  case oneHot =>
    have hmask : (regRngOut s).extractLsb' 4 4 = oneHot s.rngOut :=
      (regRngOut_above_reserved s (by decide)).trans BitVec.extractLsb'_append_eq_right
    rw [← getLsbD_oneHot s.rngOut ⟨k, hk⟩, ← hmask]
    simp [hk]
  case valid =>
    have hvalid : (regRngOut s).extractLsb' 8 1 = BitVec.ofBool s.rngValid :=
      (regRngOut_above_oneHot s (by decide)).trans BitVec.extractLsb'_append_eq_right
    simpa using congrArg (·.getLsbD 0) hvalid
  case above => exact (regRngOut_above_oneHot s (by decide)).trans BitVec.extractLsb'_append_eq_left
  case noDraw =>
    obtain ⟨-, -, hgen, -⟩ := (invariant_iff s).1 hinv
    exact regRngOut_of_no_draw hgen hnone

/-! ### The seed and the draw -/

/-- Settles O25: the word is the encoder's. -/
theorem seedWrite : Obligations.SeedWrite :=
  fun _ data => ⟨decodeEncodeRoundTrip (.wrRngState data) rfl, rfl⟩

/-- R88: the entropy is below 2^32, so it loses nothing in a word. -/
theorem zextFrc_toNat (top : Fin 32) (frc : Word) : (zextFrc top frc).toNat = frc.toNat % 2 ^ (top.val + 1) :=
  Nat.mod_eq_of_lt ((Nat.mod_le ..).trans_lt frc.isLt)

/-- R190: the LCG step over the integers. -/
theorem lcg_toNat (mixed : Word) : (lcg mixed).toNat = (22695477 * mixed.toNat + 1) % 2 ^ 32 := by
  simp [lcg, BitVec.toNat_add, BitVec.toNat_mul]

/-- Settles O33: the two operations of the draw as numbers, and the decoder's test of the payload. -/
theorem rngDrawIsTheLcgStep : Obligations.RngDrawIsTheLcgStep := by
  intro s pl
  refine ⟨by decide, ⟨(rngDraw s).rngState, (rngDraw s).rngOut, rfl, ?next, ?idx⟩,
    fun hpl => hostStep_of_payload (by decide) hpl s⟩
  case next => rw [rngDraw_rngState, lcg_toNat, BitVec.toNat_xor, frcIn, zextFrc_toNat]
  case idx => rw [rngDraw_rngOut, rngDraw_rngState, BitVec.extractLsb'_toNat, Nat.shiftRight_eq_div_pow]

end Sys2Proof.Machine
end

section
/-! SUPPORT. Bus errors (60_exceptions.md R210 to R216): what a cycle that raises one may change, what the other cycles do
to the held code, and which cycles raise. -/
namespace Sys2Proof.Machine

variable {s t : State}

/-- Settles O10: no part of a cycle refuses or faults. -/
theorem everyStepGivesANextState : Obligations.EveryStepGivesANextState := step_eq_next

/-- The cycle raised no error; it kept the held code, or `clears` says why the code is 0 now (R210). -/
abbrev ErrorKept (clears : Prop) (s t : State) : Prop :=
  busErr t = false ∧ (t.errCode = s.errCode ∨ (t.errCode = 0 ∧ clears))

/-- R210, R213: an instruction raises a bus error and does nothing else, or raises none; then only CLR_ERR writes the
held code. -/
theorem exec_raise_or_kept {i : Instr} (hexec : exec i s = .next t) :
    (∃ e, t = raiseBusError e s) ∨ ErrorKept (i = .clrErr) s t := by
  rcases exec_cases i s with ⟨v, hv, -⟩ | ⟨e, he, -⟩ | ⟨u, hu, -, hwrite⟩
  · cases hexec.symm.trans hv
    exact .inr ⟨rfl, .inl rfl⟩
  · cases hexec.symm.trans he
    exact .inl ⟨e, rfl⟩
  · cases hexec.symm.trans hu
    refine .inr ⟨rfl, ?_⟩
    rcases hwrite with ⟨v, -, rfl⟩ | ⟨v, -, rfl⟩ | ⟨v, -, rfl⟩ | ⟨v, -, rfl⟩ | ⟨v, -, rfl⟩ | ⟨-, rfl⟩ |
      ⟨cb, -, -, rfl⟩ | ⟨-, rfl⟩ | ⟨n, -, -, rfl⟩ | ⟨-, rfl⟩ | ⟨hclr, rfl⟩
    iterate 10 exact .inl rfl
    exact .inr ⟨rfl, hclr⟩

/-- R210, R213, for a cycle: it raises a bus error on the state its tick and sample left, or raises none; then only a
reset or CLR_ERR writes the held code. -/
theorem step_raise_or_kept (hstep : step s = .next t) :
    (∃ e, t = raiseBusError e (beforeHost s)) ∨
    ErrorKept ((takeInputs s).ports.rst = true ∨ presented (takeInputs s).ports = some .clrErr) s t := by
  rcases step_cases s with ⟨hrst, hs⟩ | ⟨-, -, -, hs⟩ | ⟨-, -, e, -, -, hs⟩ | ⟨-, -, i, -, hi, hs⟩
  · cases hstep.symm.trans hs
    exact .inr ⟨rfl, .inr ⟨rfl, .inl hrst⟩⟩
  · cases hstep.symm.trans hs
    exact .inr ⟨rfl, .inl (beforeHost_errCode s)⟩
  · cases hstep.symm.trans hs
    exact .inl ⟨e, rfl⟩
  · refine (exec_raise_or_kept (hs.symm.trans hstep)).imp_right fun ⟨hnone, hcode⟩ => ⟨hnone, ?_⟩
    rw [beforeHost_errCode] at hcode
    exact hcode.imp_right fun ⟨hzero, hclr⟩ => ⟨hzero, .inr (hclr ▸ hi)⟩

/-- Settles O15: of the cycles only those that raise leave `bus_err_q` set. -/
theorem errorsArePrecise : Obligations.ErrorsArePrecise := by
  intro s t hstep herr
  rcases step_raise_or_kept hstep with ⟨e, rfl⟩ | ⟨hnone, -⟩
  · rfl
  · cases herr.symm.trans hnone

/-- R210, R215: what the pseudocode does with an error's code. -/
theorem hostStepRule_of_error {tw : Tw} (hcode : checkTw s tw ≠ 0#4) : hostStepRule s tw =
    { s with errCode := if s.errCode = 0#4 then checkTw s tw else s.errCode, busErrQ := true, busRdataQ := 0#32 } :=
  if_pos hcode

/-- R110, R215: the pseudocode leaves `bus_err_q` clear where `Check` gives no error. -/
theorem hostStepRule_busErrQ_of_ok {tw : Tw} (hcode : checkTw s tw = 0#4) : (hostStepRule s tw).busErrQ = false := by
  rw [hostStepRule, if_neg (not_not.2 hcode)]
  split <;> rfl

/-- R210, R212: without reset, a transaction for which `Check` gives a code gets the pseudocode's error. -/
theorem step_of_check_error (hrst : (takeInputs s).ports.rst = false) (hvalid : (takeInputs s).ports.busValid = true)
    (hcode : checkTw (beforeHost s) (portsTw (takeInputs s).ports) ≠ 0#4) :
    ∃ t, step s = .next t ∧ busErr t = true ∧
      t.errCode = if s.errCode = 0#4 then checkTw (beforeHost s) (portsTw (takeInputs s).ports) else s.errCode := by
  refine ⟨_, stepFollowsHostStepRule s hrst, ?_⟩
  rw [if_pos hvalid, hostStepRule_of_error hcode, ← beforeHost_errCode s]
  exact ⟨rfl, rfl⟩

/-- R240: a cycle with reset runs only ResetStep. -/
theorem step_of_rst (hrst : (takeInputs s).ports.rst = true) : step s = .next (resetStep (takeInputs s)) := if_pos hrst

/-- R51, R212, R240: no other cycle raises. -/
theorem busErr_of_no_error (hstep : step s = .next t) (hnone : (takeInputs s).ports.rst = true ∨
      (takeInputs s).ports.busValid = false ∨ checkTw (beforeHost s) (portsTw (takeInputs s).ports) = 0#4) :
    busErr t = false := by
  cases hrst : (takeInputs s).ports.rst with
  | true =>
    cases hstep.symm.trans (step_of_rst hrst)
    rfl
  | false =>
    cases hstep.symm.trans (stepFollowsHostStepRule s hrst)
    split
    · rename_i hvalid
      have hcode := (hnone.resolve_left (by simp [hrst])).resolve_left (by simp [hvalid])
      exact hostStepRule_busErrQ_of_ok hcode
    · rfl

/-- Settles O16: by `Check`'s code the cycle raises or does not, and one that does not keeps or clears the held code. -/
theorem firstErrorIsKept : Obligations.FirstErrorIsKept := by
  intro s p code
  refine ⟨step_of_check_error, fun hnone => ?_⟩
  obtain ⟨t, ht⟩ := step_eq_next s
  have hclear : busErr t = false := busErr_of_no_error ht hnone
  rcases step_raise_or_kept ht with ⟨e, rfl⟩ | hkept
  · cases hclear
  · exact ⟨t, ht, hkept⟩

end Sys2Proof.Machine
end

section
/-! SUPPORT. Reset (70_reset_and_hazards.md R240, R241), and the shrinking half-periods of a chain (R253). -/
namespace Sys2Proof.Machine

variable {s : State}

/-! ### Reset -/

/-- Settles O8: ResetStep runs alone, and it overwrites all that is not an input or FRC_W. -/
theorem resetCycleRunsOnlyReset : Obligations.ResetCycleRunsOnlyReset := fun _ hrst => step_of_rst hrst

/-- R241: the value each read shows after reset. -/
theorem exec_read_reset {i : Instr} (hread : i.isRead = true) : exec i State.reset =
    .next (replyRead (if i = .rdId then 0x53494D4E else if i = .rdRngOut then 0x10 else 0) State.reset) := by
  cases i with
  | rdId => rfl
  | rdRngOut => rfl
  | rdStatus | rdErr | rdToneHp | rdToneCnt | rdSweepStep | rdSweepFloor | rdTeHp | rdTeRemain | rdTeCtrl
  | rdTeReload | rdDebResult | rdDebLeft | rdRngState => rfl
  | _ => cases hread

/-- Settles O9: the reads by `exec_read_reset`, the audio lines and the fields no register shows as reset leaves them. -/
theorem registersAfterReset : Obligations.RegistersAfterReset :=
  ⟨fun _ => exec_read_reset, rfl, rfl, rfl, rfl, rfl, rfl, rfl⟩

/-! ### Chains -/

/-- R253: the next half-period of a chain is smaller, the step being positive (R29). -/
theorem chained_teHp_lt (hpos : 1#16 ≤ s.teStep) (hlt : s.teStep < s.teHp) :
    (s.teHp - s.teStep).toNat < s.teHp.toNat := by bv_omega

/-- R253: of the things a tick can do, only the arming of a chain's next tone writes `te_hp`. -/
theorem tickStep_teHp_kept_or_chained (hinv : ToneInv s) : (tickStep s).teHp = s.teHp ∨
    ((tickStep s).teHp.toNat < s.teHp.toNat ∧ s.teActive = true ∧ s.teCb = .sweep ∧ s.teRemaining = 1 ∧
      (tickStep s).teActive = true ∧ (tickStep s).teRemaining = s.teReload) := by
  obtain ⟨-, -, hsweep⟩ := hinv
  rcases tickStep_cases s with ⟨-, ht⟩ | ⟨-, -, ht⟩ | ⟨-, -, -, ht⟩ | ⟨-, -, -, -, ht⟩ |
    ⟨hactive, -, hlast, hcb, hlt, -, ht⟩
  · exact .inl (by rw [ht])
  · exact .inl (by rw [ht])
  · exact .inl (by rw [ht])
  · exact .inl (by rw [ht, doStop_teHp])
  · rw [ht]
    exact .inr ⟨chained_teHp_lt (hsweep ⟨hcb, hactive⟩) hlt, hactive, hcb, by bv_omega, rfl, rfl⟩

/-- R171, R173, R253: a SWEEP tone's last tick leaves the engine Active only by arming a smaller half-period. -/
theorem tickStep_teHp_lt_of_last_tick (hinv : ToneInv s) (hactive : s.teActive = true) (hcb : s.teCb = .sweep)
    (hrem : s.teRemaining = 1) (hphase : s.tePhaseCnt.toNat + 1 = s.teHp.toNat)
    (hstays : (tickStep s).teActive = true) : (tickStep s).teHp.toNat < s.teHp.toNat := by
  obtain ⟨-, -, hsweep⟩ := hinv
  have hfires : ¬ s.tePhaseCnt + 1#16 < s.teHp := by bv_omega
  have hlast : s.teRemaining - 1#16 = 0#16 := by bv_omega
  by_cases hchain : ChainGoesOn s
  · rw [tickStep_of_chain hactive hfires hlast hcb hchain]
    exact chained_teHp_lt (hsweep ⟨hcb, hactive⟩) hchain.1
  · rw [tickStep_of_end hactive hfires hlast (.inr hchain)] at hstays
    cases hstays

/-- Settles O41: a tick that keeps `te_hp`, one that chains, and the last tick of a SWEEP tone. -/
theorem chainedHalfPeriodsShrink : Obligations.ChainedHalfPeriodsShrink := by
  rintro s ⟨⟨htone, -⟩, -⟩
  exact ⟨tickStep_teHp_kept_or_chained htone, tickStep_teHp_lt_of_last_tick htone⟩

end Sys2Proof.Machine
end

section
/-! SUPPORT. How the model feeds a step its inputs, which no rule of the spec fixes (notes/assumptions/1.md, 2.md and
4.md): the script's cycles, the free ones, and a word that the host places. -/
namespace Sys2Proof.Machine

variable {s t : State}

/-! ### A cycle's inputs -/

/-- The two states have the same inputs on the ports, the same inputs to come and the same FRC_W: all that is not state
of 10_state.md section 3. -/
abbrev SameInputs (a b : State) : Prop :=
  a.ports = b.ports ∧ a.frcTop = b.frcTop ∧ a.script = b.script ∧ a.drawn = b.drawn

/-- R14: no instruction writes an input. -/
theorem exec_sameInputs {i : Instr} (hexec : exec i s = .next t) : SameInputs t s := by
  rcases exec_cases i s with ⟨v, hv, -⟩ | ⟨e, he, -⟩ | ⟨u, hu, -, hwrite⟩
  · cases hexec.symm.trans hv
    exact ⟨rfl, rfl, rfl, rfl⟩
  · cases hexec.symm.trans he
    exact ⟨rfl, rfl, rfl, rfl⟩
  · cases hexec.symm.trans hu
    rcases hwrite with ⟨v, -, rfl⟩ | ⟨v, -, rfl⟩ | ⟨v, -, rfl⟩ | ⟨v, -, rfl⟩ | ⟨v, -, rfl⟩ | ⟨-, rfl⟩ |
      ⟨cb, -, -, rfl⟩ | ⟨-, rfl⟩ | ⟨n, -, -, rfl⟩ | ⟨-, rfl⟩ | ⟨-, rfl⟩ <;> exact ⟨rfl, rfl, rfl, rfl⟩

/-- R14: nor does the cycle's tick or sample. -/
theorem beforeHost_sameInputs (s : State) : SameInputs (beforeHost s) (takeInputs s) := by
  simp [SameInputs]

/-- R14: after its inputs are taken, a cycle leaves them alone, a reset cycle too (R240). -/
theorem step_sameInputs (hstep : step s = .next t) : SameInputs t (takeInputs s) := by
  cases hrst : (takeInputs s).ports.rst with
  | true =>
    cases hstep.symm.trans (step_of_rst hrst)
    exact ⟨rfl, rfl, rfl, rfl⟩
  | false =>
    have hbefore := beforeHost_sameInputs s
    refine step_keeps_of_exec (P := (SameInputs · (takeInputs s))) hstep hrst hbefore (fun _ h => h) (fun _ _ h => h)
      fun i _ hexec => ?_
    simpa only [SameInputs, exec_sameInputs hexec] using hbefore

theorem takeInputs_drawn_of_script {p : Ports} {rest : List Ports} (hscript : s.script = p :: rest) :
    (takeInputs s).drawn = s.drawn := by
  simp [takeInputs, hscript]

theorem takeInputs_of_script_nil (hscript : s.script = []) :
    takeInputs s = { s with ports := Config.freeCycle s.drawn, drawn := s.drawn + 1 } := by
  simp [takeInputs, hscript]

/-- Settles O11: what a step leaves of the inputs is what taking them left. -/
theorem stepTakesOneCycleOfInputs : Obligations.StepTakesOneCycleOfInputs := by
  intro s t hstep
  obtain ⟨hports, htop, hscript, hdrawn⟩ := step_sameInputs hstep
  refine ⟨htop.trans (takeInputs_frcTop s), hscript.trans (takeInputs_script s), ?scripted, ?free⟩
  case scripted =>
    intro p rest hs
    exact ⟨hports.trans (takeInputs_ports_of_script hs), hdrawn.trans (takeInputs_drawn_of_script hs)⟩
  case free =>
    intro hs
    rw [takeInputs_of_script_nil hs] at hports hdrawn
    exact ⟨hports, hdrawn⟩

/-! ### A word that is placed -/

/-- R50, R80: the ports that present a word carry that word. -/
theorem portsTw_presentWord (tw : Tw) : portsTw (presentWord tw) = tw := (tw_eq_parts tw).symm

/-- R80: an instruction read from a number is the decoder's instruction of its 41 bits. -/
theorem decode_of_decodeTableWord {nbits w : Nat} {i : Instr} (h : decodeTableWord nbits w = some i) :
    decode (BitVec.ofNat 41 w) = .instr i := by
  unfold decodeTableWord at h
  split at h
  · cases hdec : decode (BitVec.ofNat 41 w) with
    | instr j => rw [hdec] at h; cases h; rfl
    | error e => rw [hdec] at h; cases h
  · cases h

/-- R10, R170, R131: the cycle that presents a placed word has no strobe, so nothing happens before its HostStep. -/
theorem beforeHost_withFetchWord (s : State) (nbits w : Nat) :
    beforeHost (s.withFetchWord nbits w) = { s with ports := presentWord (BitVec.ofNat 41 w) } := rfl

/-- Settles O6: the placed cycle has a transaction and no reset, so its step runs the word's instruction. -/
theorem fetchWordIsRunNext : Obligations.FetchWordIsRunNext := by
  intro s nbits w i htable
  have hdec : decode (portsTw (takeInputs (s.withFetchWord nbits w)).ports) = .instr i :=
    (congrArg decode (portsTw_presentWord _)).trans (decode_of_decodeTableWord htable)
  calc step (s.withFetchWord nbits w)
    _ = exec i (beforeHost (s.withFetchWord nbits w)) := stepRunsDecodedInstruction _ i rfl rfl hdec
    _ = exec i { s with ports := presentWord (BitVec.ofNat 41 w) } := by rw [beforeHost_withFetchWord]

end Sys2Proof.Machine
end
